-- ==== Sys2Proof/Word.lean ====
section
/-! DEFINITION. The words of the block (R5, R11): bytes, 16-bit values, ten-byte frames. -/

namespace Sys2Proof

/-- A byte (R5). -/
abbrev Byte := BitVec 8

/-- A 16-bit value (R5): a device id or a raw particulate reading. -/
abbrev Half := BitVec 16

/-- A response frame: exactly `FRAME_LEN` = 10 bytes (R29); also the ten registers of `buf` (R11). -/
abbrev Frame := Vector Byte 10

end Sys2Proof
end

