-- ==== Sys2Proof/Machine/Bytes.lean ====
section
/-! DEFINITION. Assembly of 16-bit values from bytes (R5, R22) and the checksum (R47). -/

namespace Sys2Proof

/-- `v[15:8]` (R5). -/
def hiByte (v : Half) : Byte := v.extractLsb' 8 8
/-- `v[7:0]` (R5). -/
def loByte (v : Half) : Byte := v.extractLsb' 0 8

/-- Big-endian assembly, `(hi << 8) | lo`: the device id (R22 b, R32). -/
def be16 (first second : Byte) : Half := (first.setWidth 16 <<< 8) ||| second.setWidth 16
/-- Little-endian assembly, `lo | (hi << 8)`: a particulate reading (R22 c, R33). -/
def le16 (first second : Byte) : Half := first.setWidth 16 ||| (second.setWidth 16 <<< 8)

/-- R47: a 16-bit unsigned accumulation, truncated to its low 8 bits. -/
def checksum (s : List Byte) : Byte :=
  (s.foldl (fun (acc : BitVec 16) b => acc + b.setWidth 16) 0).setWidth 8

/-- The checksum span `f[2..=7]` of a response frame (R4 `CK_FIRST`, `CK_LAST`; R49). -/
def checkedSpan (f : Frame) : List Byte := [f[2], f[3], f[4], f[5], f[6], f[7]]

/-- R49: the byte at `CK_POS` = 8 equals the checksum of the span. -/
def checksumValid (f : Frame) : Bool := checksum (checkedSpan f) == f[8]

end Sys2Proof
end

