-- ==== Sys2Proof/Config.lean ====
section
/-! DEFINITION. The static parameters of R4 that the spec decides where its source is silent. Each is
"a field of its configuration record"; the decided values are `Config.default` (Machine/Params.lean). -/

namespace Sys2Proof

/-- The "decision" rows of R4's table. None can be changed while the block runs (R4, R15). -/
structure Config where
  /-- `TAIL` (D27). -/
  tail : Byte
  /-- `TAIL_CHECK` (D5): whether the value of `f[9]` is enforced on receive (R73). -/
  tailCheck : Bool
  /-- `CMD_ID` (D15), shared by all command variants (R40). -/
  cmdId : Byte
  /-- `CMD_PAYLOAD_LEN`, written `L` (D16). -/
  cmdPayloadLen : Nat
  /-- The sub-type bytes of commands (D17, R41). -/
  subReportingMode : Byte
  subQuery : Byte
  subDeviceId : Byte
  subSleepWork : Byte
  subFirmware : Byte
  subWorkingPeriod : Byte
  /-- `COUNT_W` (D2): the width of the byte counter in bits (R10). -/
  countWidth : Nat
deriving DecidableEq, Repr

/-- The sub-type bytes, in the order of the command kind codes (R46). -/
def Config.subTypes (c : Config) : List Byte :=
  [c.subReportingMode, c.subQuery, c.subDeviceId, c.subSleepWork, c.subWorkingPeriod, c.subFirmware]

/-- The legal parameters of commands: `5 ≤ L ≤ 255` (R4), and six different sub-type bytes, since the sub-type byte
is the one "identifying the operation" (R39; DEDUCED, log 13). -/
abbrev Config.Legal (c : Config) : Prop :=
  5 ≤ c.cmdPayloadLen ∧ c.cmdPayloadLen ≤ 255 ∧ c.subTypes.Nodup

/-- A legal `COUNT_W`: the counter holds the legal counts 0 to 9 (R10), for which "4 bits is the least
width" (D2; DEDUCED, log 13). Any greater width is legal, and has more illegal counts. -/
abbrev Config.LegalCount (c : Config) : Prop := 4 ≤ c.countWidth

/-- `CMD_FRAME_LEN` = `L + 4` (R4, R39). -/
def Config.cmdFrameLen (c : Config) : Nat := c.cmdPayloadLen + 4

end Sys2Proof
end

