-- ==== Sys2Proof/Machine/Params.lean ====
section
/-! DEFINITION. The named constants of the wire protocol and the decided parameter values (R4, R30, R38,
R42, R46), each in one place so that an audit can change it (U4). -/

namespace Sys2Proof

/-- `HEAD` (R4, R30). -/
def headMarker : Byte := 0xAA
/-- `RSP_DATA` (R4, R38). -/
def rspData : Byte := 0xC0
/-- `RSP_REPLY` (R4, R38). -/
def rspReply : Byte := 0xC5

/-- The response sub-discriminators of R38. -/
def rspReportingMode : Byte := 0x02
def rspDeviceId : Byte := 0x05
def rspSleepWork : Byte := 0x06
def rspFirmware : Byte := 0x07
def rspWorkingPeriod : Byte := 0x08

/-- `PERIOD_MAX` (R4). -/
def periodMax : Nat := 30
/-- One byte of `CMD_TARGET`, the all-ones marker (R4, R41). -/
def cmdTarget : Byte := 0xFF

/-- The flag byte's two values (R34, R42 a). -/
def flagQuery : Byte := 0x00
def flagSet : Byte := 0x01
/-- The reporting modes' numbers (R35, R42 b; D19). -/
def modeActive : Byte := 0x00
def modeQuery : Byte := 0x01
/-- The sleep/work modes' numbers (R35, R42 b; D19). -/
def modeSleep : Byte := 0x00
def modeWork : Byte := 0x01

/-- The decided values of R4's table. The ones the spec took from general knowledge are UNVERIFIED by its
source (log 11). -/
def Config.default : Config where
  tail := 0xAB
  tailCheck := false
  cmdId := 0xB4
  cmdPayloadLen := 15
  subReportingMode := 0x02
  subQuery := 0x04
  subDeviceId := 0x05
  subSleepWork := 0x06
  subFirmware := 0x07
  subWorkingPeriod := 0x08
  countWidth := 4

end Sys2Proof
end

