-- ==== Sys2Proof/Syntax.lean ====
section
/-! DEFINITION. The operations of the block as syntax: one constructor of `Instr` per row of
spec/opcode_table.json ("instructions" means the block's operations, R1). -/

namespace Sys2Proof

/-- The query/set flag of a command (R17 `cmd_query`, R42 a). -/
inductive Access where
  | query
  | set
deriving DecidableEq, Repr

/-- The two reporting modes (R35, R42 b). -/
inductive ReportingMode where
  | active
  | query
deriving DecidableEq, Repr

/-- The two sleep/work modes (R35, R42 b). -/
inductive SleepWork where
  | sleep
  | work
deriving DecidableEq, Repr

/-- The bytes of a response frame that no kind's fields hold (R29): offset 0, not examined by the decoder
(R71), offset 8, the checksum, and offset 9, the tail marker. -/
structure Envelope where
  header : Byte
  checksum : Byte
  tail : Byte
deriving DecidableEq, Repr

/-- The three formats of spec/opcode_table.json (30_encoding.md, opening). -/
inductive Format where
  /-- One received byte, seen while Idle. -/
  | byte8
  /-- A ten-byte response frame. -/
  | rsp10
  /-- A command frame of `L + 4` bytes. -/
  | cmd
deriving DecidableEq, Repr

/-- The operations: two classes of a byte received while Idle, the seven classes of a ten-byte frame, the
six commands. A response row's operands are its fields and every other byte of the frame, so that no byte
is lost. -/
inductive Instr where
  /-- R63. -/
  | head
  /-- R64. -/
  | noise (b : Byte)
  /-- R76, offsets 2 to 5: two little-endian readings. -/
  | queryResponse (pm25 pm10 device : Half) (env : Envelope)
  /-- R77, offsets 3, 4 and the ignored 5. -/
  | setReportingModeResponse (flag mode unused : Byte) (device : Half) (env : Envelope)
  /-- R78, the ignored offsets 3, 4, 5. -/
  | setDeviceIdResponse (u3 u4 u5 : Byte) (device : Half) (env : Envelope)
  /-- R79, offsets 3, 4 and the ignored 5. -/
  | setSleepWorkResponse (flag mode unused : Byte) (device : Half) (env : Envelope)
  /-- R80, offsets 3, 4 and the ignored 5. -/
  | setWorkingPeriodResponse (flag period unused : Byte) (device : Half) (env : Envelope)
  /-- R81, offsets 3, 4, 5. -/
  | getFirmwareVersionResponse (year month day : Byte) (device : Half) (env : Envelope)
  /-- R82, offsets 1 to 5. -/
  | unknownCommand (id sub d1 d2 d3 : Byte) (device : Half) (env : Envelope)
  /-- R54. -/
  | setReportingMode (access : Access) (mode : ReportingMode)
  /-- R55. -/
  | query
  /-- R56. -/
  | setDeviceId (id : Half)
  /-- R57. -/
  | setSleepWork (access : Access) (mode : SleepWork)
  /-- R58; `period` is the raw byte, 0 Continuous, n Periodic(n). -/
  | setWorkingPeriod (access : Access) (period : Byte)
  /-- R59. -/
  | getFirmwareVersion
deriving DecidableEq, Repr

/-- The format of the unit an operation stands for. -/
def Instr.format : Instr → Format
  | .head => .byte8
  | .noise _ => .byte8
  | .queryResponse _ _ _ _ => .rsp10
  | .setReportingModeResponse _ _ _ _ _ => .rsp10
  | .setDeviceIdResponse _ _ _ _ _ => .rsp10
  | .setSleepWorkResponse _ _ _ _ _ => .rsp10
  | .setWorkingPeriodResponse _ _ _ _ _ => .rsp10
  | .getFirmwareVersionResponse _ _ _ _ _ => .rsp10
  | .unknownCommand _ _ _ _ _ _ _ => .rsp10
  | .setReportingMode _ _ => .cmd
  | .query => .cmd
  | .setDeviceId _ => .cmd
  | .setSleepWork _ _ => .cmd
  | .setWorkingPeriod _ _ => .cmd
  | .getFirmwareVersion => .cmd

end Sys2Proof
end

