-- ==== Sys2Proof/Machine/Frames.lean ====
section
/-! DEFINITION. The layouts of the two frame formats: the response frame (R29) and the command frame with
the data section of each variant (R39 to R42, R52, R54 to R59). -/

namespace Sys2Proof

/-- R29: header marker, command id, four data bytes, device id big-endian, checksum, tail marker. -/
def responseFrame (env : Envelope) (id d0 d1 d2 d3 : Byte) (device : Half) : Frame :=
  #v[env.header, id, d0, d1, d2, d3, hiByte device, loByte device, env.checksum, env.tail]

/-- R42 a. -/
def flagByte : Access → Byte
  | .query => flagQuery
  | .set => flagSet

/-- R42 b, reporting mode. -/
def reportingModeByte : ReportingMode → Byte
  | .active => modeActive
  | .query => modeQuery

/-- R42 b, sleep/work mode. -/
def sleepWorkByte : SleepWork → Byte
  | .sleep => modeSleep
  | .work => modeWork

/-- The data section before its named bytes are set: zero-filled, the last two bytes the all-ones marker
(R41; 41_command_encoder.md section 2). -/
def blankPayload (c : Config) : List Byte :=
  List.replicate (c.cmdPayloadLen - 2) 0 ++ [cmdTarget, cmdTarget]

/-- A data section that carries a sub-type, a flag and a value: `p[0]`, `p[1]`, `p[2]` (R41). -/
def flagValuePayload (c : Config) (sub flag value : Byte) : List Byte :=
  (((blankPayload c).set 0 sub).set 1 flag).set 2 value

/-- A data section that carries a sub-type only (R41). -/
def barePayload (c : Config) (sub : Byte) : List Byte := (blankPayload c).set 0 sub

/-- R54. -/
def reportingModePayload (c : Config) (a : Access) (m : ReportingMode) : List Byte :=
  flagValuePayload c c.subReportingMode (flagByte a) (reportingModeByte m)
/-- R55. -/
def queryPayload (c : Config) : List Byte := barePayload c c.subQuery
/-- R56: the new id big-endian at `p[L-4]`, `p[L-3]` (R42 d, R22 d). -/
def deviceIdPayload (c : Config) (id : Half) : List Byte :=
  ((barePayload c c.subDeviceId).set (c.cmdPayloadLen - 4) (hiByte id)).set
    (c.cmdPayloadLen - 3) (loByte id)
/-- R57. -/
def sleepWorkPayload (c : Config) (a : Access) (m : SleepWork) : List Byte :=
  flagValuePayload c c.subSleepWork (flagByte a) (sleepWorkByte m)
/-- R58. -/
def workingPeriodPayload (c : Config) (a : Access) (period : Byte) : List Byte :=
  flagValuePayload c c.subWorkingPeriod (flagByte a) period
/-- R59. -/
def firmwarePayload (c : Config) : List Byte := barePayload c c.subFirmware

/-- R52: `[HEAD, CMD_ID] ++ p ++ [checksum(p), TAIL]`. -/
def commandFrame (c : Config) (p : List Byte) : List Byte :=
  [headMarker, c.cmdId] ++ p ++ [checksum p, c.tail]

end Sys2Proof
end

