-- ==== Sys2Proof/WellFormed.lean ====
section
/-! DEFINITION. What an operation must satisfy to be the one its row names. -/

namespace Sys2Proof

/-- The pairs (`f[1]`, `f[2]`) of R38's table. -/
def knownPair (id sub : Byte) : Bool :=
  id == rspData ||
    (id == rspReply &&
      [rspReportingMode, rspDeviceId, rspSleepWork, rspWorkingPeriod, rspFirmware].contains sub)

/-- Noise is any byte but `HEAD` (R64); an unknown pair is not in R38's table (R82); the period of a
command is at most `PERIOD_MAX` (R53, R58). Every other operand may hold any value. -/
def WellFormed : Instr → Bool
  | .head => true
  | .noise b => b != headMarker
  | .queryResponse _ _ _ _ => true
  | .setReportingModeResponse _ _ _ _ _ => true
  | .setDeviceIdResponse _ _ _ _ _ => true
  | .setSleepWorkResponse _ _ _ _ _ => true
  | .setWorkingPeriodResponse _ _ _ _ _ => true
  | .getFirmwareVersionResponse _ _ _ _ _ => true
  | .unknownCommand id sub _ _ _ _ _ => !knownPair id sub
  | .setReportingMode _ _ => true
  | .query => true
  | .setDeviceId _ => true
  | .setSleepWork _ _ => true
  | .setWorkingPeriod _ period => decide (period.toNat ≤ periodMax)
  | .getFirmwareVersion => true

end Sys2Proof
end

