-- ==== Sys2Proof/Decode.lean ====
section
/-! DEFINITION. From units of the three formats of spec/opcode_table.json to operations, total and
rejecting by name; then the encoder; then the host's reading of a table word. -/

namespace Sys2Proof

/-- Why a unit is no operation of its format. -/
inductive Reject where
  /-- The unit has not the length of its format (R44). -/
  | wrongLength
  /-- A command frame's first byte is not `HEAD` (R39). -/
  | badHeader
  /-- A command frame's second byte is not `CMD_ID` (R40). -/
  | badCommandId
  /-- A command frame's last byte is not `TAIL` (R39). -/
  | badTailMarker
  /-- A command's last payload bytes are not the all-ones marker (R41). -/
  | badTarget
  /-- A payload byte no field of the variant names is not 0x00 (R41, R43 d). -/
  | reservedNotZero
  /-- `p[0]` is no sub-type (R41). -/
  | unknownSubType
  /-- The flag byte is neither query nor set (R42 a). -/
  | badFlag
  /-- The mode byte is neither of the two modes (R42 b). -/
  | badMode
  /-- The period is above `PERIOD_MAX` (R53). -/
  | periodRange
deriving DecidableEq, Repr

/-- One received byte while Idle: rows `HEAD` and, by default, `NOISE` (R63, R64). -/
def decodeByte (b : Byte) : Instr := if b = headMarker then .head else .noise b

/-- The bytes outside every kind's fields. -/
def envelopeOf (f : Frame) : Envelope := { header := f[0], checksum := f[8], tail := f[9] }

/-- R32: the device id, big-endian at offsets 6 and 7. -/
def deviceOf (f : Frame) : Half := be16 f[6] f[7]

/-- A ten-byte frame by the pair (`f[1]`, `f[2]`), rows in the table's order (R38, R75). The row's
condition (tail and checksum checks, R72) belongs to the operation's meaning (log 9). -/
def decodeFrame (f : Frame) : Instr :=
  let env := envelopeOf f
  let device := deviceOf f
  if f[1] = rspData then .queryResponse (le16 f[2] f[3]) (le16 f[4] f[5]) device env
  else if f[1] = rspReply ∧ f[2] = rspReportingMode then
    .setReportingModeResponse f[3] f[4] f[5] device env
  else if f[1] = rspReply ∧ f[2] = rspDeviceId then .setDeviceIdResponse f[3] f[4] f[5] device env
  else if f[1] = rspReply ∧ f[2] = rspSleepWork then .setSleepWorkResponse f[3] f[4] f[5] device env
  else if f[1] = rspReply ∧ f[2] = rspWorkingPeriod then
    .setWorkingPeriodResponse f[3] f[4] f[5] device env
  else if f[1] = rspReply ∧ f[2] = rspFirmware then
    .getFirmwareVersionResponse f[3] f[4] f[5] device env
  else .unknownCommand f[1] f[2] f[3] f[4] f[5] device env

/-- Byte `i` of a byte sequence; 0 past its end, which no checked unit reaches. -/
def byteAt (u : List Byte) (i : Nat) : Byte := u.getD i 0

/-- Every payload byte before the all-ones marker that no field of the variant names is 0x00 (R41). -/
def reservedZero (c : Config) (p : List Byte) (used : List Nat) : Bool :=
  (List.range (c.cmdPayloadLen - 2)).all fun i => used.contains i || byteAt p i == 0

/-- R42 a. The table's mask over the flag byte is 0xFE, so a flag above 0x01 belongs to no row, although
30_encoding.md's reading guide calls the mask zero over operand bytes; following the table's mask is the
model's choice (DESIGN CHOICE, log 22). -/
def accessOf (b : Byte) : Except Reject Access :=
  if b = flagQuery then .ok .query else if b = flagSet then .ok .set else .error .badFlag

/-- R42 b. A mode above 0x01 belongs to no row, by the table's mask 0xFE (DESIGN CHOICE, log 22). -/
def reportingModeOf (b : Byte) : Except Reject ReportingMode :=
  if b = modeActive then .ok .active else if b = modeQuery then .ok .query else .error .badMode

/-- R42 b. A mode above 0x01 belongs to no row, by the table's mask 0xFE (DESIGN CHOICE, log 22). -/
def sleepWorkOf (b : Byte) : Except Reject SleepWork :=
  if b = modeSleep then .ok .sleep else if b = modeWork then .ok .work else .error .badMode

/-- R42 c, R53. A period above 30 belongs to no row: above 31 by the table's mask 0xE0, and 31 by the row's
constraint, although the mask admits it (DESIGN CHOICE, log 22). -/
def periodOf (b : Byte) : Except Reject Byte :=
  if b.toNat ≤ periodMax then .ok b else .error .periodRange

/-- A flag, a value and the operation they make, once the reserved bytes are checked. -/
def decodeFlagValue {α : Type} (c : Config) (p : List Byte) (value : Byte → Except Reject α)
    (mk : Access → α → Instr) : Except Reject Instr :=
  if reservedZero c p [0, 1, 2] then
    match accessOf (byteAt p 1), value (byteAt p 2) with
    | .ok a, .ok v => .ok (mk a v)
    | .error e, _ => .error e
    | _, .error e => .error e
  else .error .reservedNotZero

/-- A data section by its sub-type byte, as the table's masks have it (R41). -/
def decodePayload (c : Config) (p : List Byte) : Except Reject Instr :=
  if byteAt p (c.cmdPayloadLen - 2) ≠ cmdTarget ∨ byteAt p (c.cmdPayloadLen - 1) ≠ cmdTarget then
    .error .badTarget
  else if byteAt p 0 = c.subReportingMode then
    decodeFlagValue c p reportingModeOf .setReportingMode
  else if byteAt p 0 = c.subQuery then
    if reservedZero c p [0] then .ok .query else .error .reservedNotZero
  else if byteAt p 0 = c.subDeviceId then
    if reservedZero c p [0, c.cmdPayloadLen - 4, c.cmdPayloadLen - 3] then
      .ok (.setDeviceId (be16 (byteAt p (c.cmdPayloadLen - 4)) (byteAt p (c.cmdPayloadLen - 3))))
    else .error .reservedNotZero
  else if byteAt p 0 = c.subSleepWork then decodeFlagValue c p sleepWorkOf .setSleepWork
  else if byteAt p 0 = c.subWorkingPeriod then decodeFlagValue c p periodOf .setWorkingPeriod
  else if byteAt p 0 = c.subFirmware then
    if reservedZero c p [0] then .ok .getFirmwareVersion else .error .reservedNotZero
  else .error .unknownSubType

/-- The data section of a command frame, offsets 2 to `L + 1` (R39). -/
def payloadOf (c : Config) (u : List Byte) : List Byte := (u.drop 2).take c.cmdPayloadLen

/-- A command frame. The checksum byte at offset `L + 2` is not compared: the rows' masks are zero over
it (log 10). -/
def decodeCommand (c : Config) (u : List Byte) : Except Reject Instr :=
  if u.length ≠ c.cmdFrameLen then .error .wrongLength
  else if byteAt u 0 ≠ headMarker then .error .badHeader
  else if byteAt u 1 ≠ c.cmdId then .error .badCommandId
  else if byteAt u (c.cmdPayloadLen + 3) ≠ c.tail then .error .badTailMarker
  else decodePayload c (payloadOf c u)

/-- The decoder: a unit of a format to the operation it is, or a named rejection. -/
def decode (c : Config) (fmt : Format) (u : List Byte) : Except Reject Instr :=
  match fmt with
  | .byte8 =>
    match u with
    | [b] => .ok (decodeByte b)
    | _ => .error .wrongLength
  | .rsp10 =>
    match u with
    | [f0, f1, f2, f3, f4, f5, f6, f7, f8, f9] =>
      .ok (decodeFrame #v[f0, f1, f2, f3, f4, f5, f6, f7, f8, f9])
    | _ => .error .wrongLength
  | .cmd => decodeCommand c u

/-! The encoder. -/

/-- The bytes of an operation, first byte on the wire first (R29, R38, R39, R41). -/
def encode (c : Config) : Instr → List Byte
  | .head => [headMarker]
  | .noise b => [b]
  | .queryResponse pm25 pm10 device env =>
    (responseFrame env rspData (loByte pm25) (hiByte pm25) (loByte pm10) (hiByte pm10) device).toList
  | .setReportingModeResponse flag mode unused device env =>
    (responseFrame env rspReply rspReportingMode flag mode unused device).toList
  | .setDeviceIdResponse u3 u4 u5 device env =>
    (responseFrame env rspReply rspDeviceId u3 u4 u5 device).toList
  | .setSleepWorkResponse flag mode unused device env =>
    (responseFrame env rspReply rspSleepWork flag mode unused device).toList
  | .setWorkingPeriodResponse flag period unused device env =>
    (responseFrame env rspReply rspWorkingPeriod flag period unused device).toList
  | .getFirmwareVersionResponse year month day device env =>
    (responseFrame env rspReply rspFirmware year month day device).toList
  | .unknownCommand id sub d1 d2 d3 device env =>
    (responseFrame env id sub d1 d2 d3 device).toList
  | .setReportingMode a m => commandFrame c (reportingModePayload c a m)
  | .query => commandFrame c (queryPayload c)
  | .setDeviceId id => commandFrame c (deviceIdPayload c id)
  | .setSleepWork a m => commandFrame c (sleepWorkPayload c a m)
  | .setWorkingPeriod a p => commandFrame c (workingPeriodPayload c a p)
  | .getFirmwareVersion => commandFrame c (firmwarePayload c)

/-! The host's table words. -/

/-- The format a row of `nbits` bits has in spec/opcode_table.json, whose command rows are written at the
decided `L` (30_encoding.md, opening). -/
def tableFormat (nbits : Nat) : Option Format :=
  if nbits = 8 then some .byte8
  else if nbits = 80 then some .rsp10
  else if nbits = 8 * Config.default.cmdFrameLen then some .cmd
  else none

/-- The unit as the table writes it, "first byte on the wire leftmost": the first byte is the most
significant. -/
def unitLeftmostFirst (nbits w : Nat) : List Byte :=
  (List.range (nbits / 8)).map fun i => BitVec.ofNat 8 (w >>> (8 * (nbits / 8 - 1 - i)))

/-- The unit with its bits counted from the first byte: the first byte is the least significant. -/
def unitLowestFirst (nbits w : Nat) : List Byte :=
  (List.range (nbits / 8)).map fun i => BitVec.ofNat 8 (w >>> (8 * i))

/-- Whether a unit belongs to a row other than a ten-byte frame's default row. -/
def belongsToRow (fmt : Format) (u : List Byte) : Bool :=
  match decode Config.default fmt u with
  | .ok (.unknownCommand _ _ _ _ _ _ _) => false
  | .ok _ => true
  | .error _ => false

/-- The bytes of a table word: in the table's own order, unless only the other order makes it a named
row (log 5). -/
def tableUnit (fmt : Format) (nbits w : Nat) : List Byte :=
  if !belongsToRow fmt (unitLeftmostFirst nbits w) && belongsToRow fmt (unitLowestFirst nbits w) then
    unitLowestFirst nbits w
  else unitLeftmostFirst nbits w

/-- What the decoder reads from a table word. -/
def decodeTableWord (nbits w : Nat) : Option Instr :=
  match tableFormat nbits with
  | none => none
  | some fmt =>
    match decode Config.default fmt (tableUnit fmt nbits w) with
    | .ok i => some i
    | .error _ => none

end Sys2Proof
end

