-- ==== Sys2Proof/Machine/Ports.lean ====
section
/-! DEFINITION. The ports of R17, the events they carry, and the code numbers of R46. -/

namespace Sys2Proof.Machine

/-- The input ports as sampled in one step (R17). -/
structure PortsIn where
  rst : Bool
  rxValid : Bool
  rxData : Byte
  cmdValid : Bool
  cmdKind : BitVec 3
  cmdQuery : Bool
  cmdMode : Bool
  cmdPeriod : Byte
  cmdId : Half
deriving DecidableEq, Repr

/-- A step in which the environment offers nothing (R62, R52). -/
def PortsIn.idle : PortsIn where
  rst := false
  rxValid := false
  rxData := 0
  cmdValid := false
  cmdKind := 0
  cmdQuery := false
  cmdMode := false
  cmdPeriod := 0
  cmdId := 0

/-- A step that offers the byte `b` on the receive side and nothing else. -/
def PortsIn.byte (b : Byte) : PortsIn := { PortsIn.idle with rxValid := true, rxData := b }

/-- The receive side's output ports (R17). -/
structure EventPorts where
  valid : Bool
  err : Bool
  code : BitVec 3
  d0 : Byte
  d1 : Byte
  d2 : Byte
  d3 : Byte
  device : Half
deriving DecidableEq, Repr

/-- R18: no event, every port 0. -/
def EventPorts.idle : EventPorts where
  valid := false
  err := false
  code := 0
  d0 := 0
  d1 := 0
  d2 := 0
  d3 := 0
  device := 0

/-- The transmit side's output ports (R17); `frame` is `tx_frame`, byte 0 first. -/
structure TxPorts where
  valid : Bool
  frame : List Byte
  reject : Bool
  rejectCause : BitVec 2
deriving DecidableEq, Repr

/-- R18, R52: no frame, every byte of `tx_frame` 0x00, nothing refused. -/
def TxPorts.idle (c : Config) : TxPorts where
  valid := false
  frame := List.replicate c.cmdFrameLen 0
  reject := false
  rejectCause := 0

/-- The causes of a non-fatal error, complete (R87). -/
inductive Cause where
  | frameTooLong
  | checksumMismatch
  | unknownCommand
  | badTail
deriving DecidableEq, Repr

/-- R46, R87. -/
def Cause.code : Cause → BitVec 3
  | .frameTooLong => 1
  | .checksumMismatch => 2
  | .unknownCommand => 3
  | .badTail => 4

/-- A decoded response with the fields of R76 to R81, raw. -/
inductive Response where
  | query (pm25Raw pm10Raw device : Half)
  | setReportingMode (flagRaw modeRaw : Byte) (device : Half)
  | setDeviceId (device : Half)
  | setSleepWork (flagRaw modeRaw : Byte) (device : Half)
  | setWorkingPeriod (flagRaw periodRaw : Byte) (device : Half)
  | getFirmwareVersion (year month day : Byte) (device : Half)
deriving DecidableEq, Repr

/-- R38, R46. -/
def Response.kindCode : Response → BitVec 3
  | .query _ _ _ => 0
  | .setReportingMode _ _ _ => 1
  | .setDeviceId _ => 2
  | .setSleepWork _ _ _ => 3
  | .setWorkingPeriod _ _ _ => 4
  | .getFirmwareVersion _ _ _ _ => 5

/-- R32: every kind carries the device id. -/
def Response.device : Response → Half
  | .query _ _ device => device
  | .setReportingMode _ _ device => device
  | .setDeviceId device => device
  | .setSleepWork _ _ device => device
  | .setWorkingPeriod _ _ device => device
  | .getFirmwareVersion _ _ _ device => device

/-- What the receive side reports at the end of a frame (R8, R86). -/
inductive Event where
  | response (r : Response)
  | error (c : Cause)
deriving DecidableEq, Repr

/-- Why an offered command is refused (R53). -/
inductive RejectCause where
  | unknownKind
  | periodRange
deriving DecidableEq, Repr

/-- R17, R53. -/
def RejectCause.code : RejectCause → BitVec 2
  | .unknownKind => 1
  | .periodRange => 2

end Sys2Proof.Machine
end

