-- ==== Sys2Proof/Machine/Flags.lean ====
section
/-! DEFINITION. The block has no flags (R14). What it shows in their place are the status and data ports of
one step: the values an event, a frame or a refusal drives (R18, R52, R53, R85, R89). -/

namespace Sys2Proof.Machine

/-- R85: what a response drives. The data ports are the frame's bytes at offsets 2 to 5 for every kind
alike, the fields of R76 to R81 being read off them. -/
def EventPorts.ofResponse (r : Response) (f : Frame) : EventPorts where
  valid := true
  err := false
  code := r.kindCode
  d0 := f[2]
  d1 := f[3]
  d2 := f[4]
  d3 := f[5]
  device := be16 f[6] f[7]

/-- R18, R85, R89: what an error drives: its cause's code and nothing else. -/
def EventPorts.ofError (c : Cause) : EventPorts :=
  { EventPorts.idle with valid := true, err := true, code := c.code }

/-- R52, R53: what an admitted command drives. -/
def TxPorts.ofFrame (frame : List Byte) : TxPorts where
  valid := true
  frame := frame
  reject := false
  rejectCause := 0

/-- R53, R18: what a refused command drives: its cause, and no byte. -/
def TxPorts.ofReject (c : Config) (cause : RejectCause) : TxPorts :=
  { TxPorts.idle c with reject := true, rejectCause := cause.code }

end Sys2Proof.Machine
end

