-- ==== Sys2Proof/Machine/State.lean ====
section
/-! DEFINITION. The state of the machine as plain data, and its value after reset. -/

namespace Sys2Proof.Machine

/-- `count` and `buf` are the whole architectural state (R9). The other fields are the model's own: the
static parameters, the input ports' values in the steps to come, the output ports as last driven, and the
two output streams (logs 1, 2, 3). -/
structure State where
  /-- The static parameters (R4); no step changes them. -/
  cfg : Config
  /-- The byte counter (R10), an unsigned register of `cfg.countWidth` bits: below `2 ^ cfg.countWidth`
  (`State.CountFits`), and written with 0 or through that width (`State.setCount`). -/
  count : Nat
  /-- The ten byte registers (R11). -/
  buf : Frame
  /-- The input ports' values in the steps to come, the next step's first (R17, R20 b). -/
  inputs : List PortsIn
  /-- The receive side's output ports in the last step (R17, R18, R85). -/
  evt : EventPorts
  /-- The transmit side's output ports in the last step (R17, R18, R52, R53). -/
  tx : TxPorts
  /-- Every event produced, oldest first (R25, R106). -/
  events : List Event
  /-- Every command frame produced, oldest first: the transmit stream (R20 c, R28). -/
  sent : List (List Byte)
deriving DecidableEq, Repr

/-- The machine after a step with `rst == 1` (R19, R99): `count` 0, every `buf[i]` 0x00, no event. The
parameters have their decided values; no input is waiting and nothing has been put out (log 16). -/
def State.reset : State where
  cfg := Config.default
  count := 0
  buf := Vector.replicate 10 0
  inputs := []
  evt := EventPorts.idle
  tx := TxPorts.idle Config.default
  events := []
  sent := []

/-- A machine fault: none exists. Every step terminates in a next state (R107), and what the spec calls
errors are non-fatal events (R86, R87); so nothing raises one (log 15). -/
inductive Fault
deriving DecidableEq, Repr

/-- Why the model refuses to step. -/
inductive Refusal where
  /-- Raised by an arm of `exec` whose operation has no meaning yet; safe. No arm is left so. -/
  | notModelled (mnemonic : String)
deriving DecidableEq, Repr

end Sys2Proof.Machine
end

