-- ==== Sys2Proof/Machine/Ops.lean ====
section
/-! DEFINITION. The named operations over the state: the buffer and the counter, reporting a response,
raising an error, the transmit side's outputs, reset, and taking the next step's inputs. -/

namespace Sys2Proof.Machine

/-- `buf[i]` (R6, R20). Indices 10 to 15 do not exist (R21): the index is below 10 by its type. -/
def State.readBuf (s : State) (i : Fin 10) : Byte := s.buf[i]

/-- `buf[i] <- v` (R6, R20). -/
def State.writeBuf (s : State) (i : Fin 10) (v : Byte) : State := { s with buf := s.buf.set i v }

/-- `count <- v` (R6): the register keeps the low `COUNT_W` bits (R10). No rule writes a value above 9, so a
legal width loses none of them. -/
def State.setCount (s : State) (v : Nat) : State := { s with count := v % 2 ^ s.cfg.countWidth }

/-- No event in this step (R18, R62 to R65). -/
def State.noEvent (s : State) : State := { s with evt := EventPorts.idle }

/-- `emit Response` (R6, R85): the ports carry the response, and it joins the stream of events (R25). -/
def State.emitResponse (s : State) (r : Response) (f : Frame) : State :=
  { s with evt := EventPorts.ofResponse r f, events := s.events ++ [.response r] }

/-- `raise Error` (R6, R89), the block's only form of exception: the ports carry the cause and
`count <- 0`. Nothing is saved; there is no mode, mask or vector. -/
def State.raiseError (s : State) (c : Cause) : State :=
  { s with count := 0, evt := EventPorts.ofError c, events := s.events ++ [.error c] }

/-- The return to Idle that ends a frame (R66). R90: there is no return from an error and nothing to
restore; the error's entry has already left the accumulator Idle. -/
def State.returnToIdle (s : State) : State := s.setCount 0

/-- R99, receive side: `count <- 0`, every `buf[i] <- 0x00`, no event. -/
def State.resetReceive (s : State) : State :=
  { s with count := 0, buf := Vector.replicate 10 0, evt := EventPorts.idle }

/-- R52: an admitted command's data section leaves as a frame, on the ports and in the transmit stream. -/
def State.transmit (s : State) (p : List Byte) : State :=
  { s with
    tx := TxPorts.ofFrame (commandFrame s.cfg p)
    sent := s.sent ++ [commandFrame s.cfg p] }

/-- R53: a refused command. -/
def State.rejectCommand (s : State) (cause : RejectCause) : State :=
  { s with tx := TxPorts.ofReject s.cfg cause }

/-- R52: a step that offers no command. -/
def State.noCommand (s : State) : State := { s with tx := TxPorts.idle s.cfg }

/-- The input ports' values in the next step; when the list is at its end the environment offers nothing
(log 7). -/
def State.nextInput (s : State) : PortsIn := s.inputs.headD PortsIn.idle

/-- The next step's inputs are taken. -/
def State.advance (s : State) : State := { s with inputs := s.inputs.tail }

end Sys2Proof.Machine
end

