-- ==== Sys2Proof/Machine/Accumulator.lean ====
section
/-! DEFINITION. The frame accumulator (42_frame_accumulator.md): the step rules R63 to R67, the evaluation
of a complete frame (R71 to R75), and the operations `HEAD` and `NOISE`. -/

namespace Sys2Proof.Machine

/-- R63: the header starts a new buffer. -/
def State.startFrame (s : State) (b : Byte) : State := ((s.writeBuf 0 b).setCount 1).noEvent

/-- R65, for `count ≤ 8`: the byte is appended whatever its value (R68). -/
def State.appendByte (s : State) (b : Byte) (h : s.count ≤ 8) : State :=
  ((s.writeBuf ⟨s.count, by omega⟩ b).setCount (s.count + 1)).noEvent

/-- R67: the error, and then the byte as one received while Idle. -/
def State.overflowByte (s : State) (b : Byte) : State :=
  if b = headMarker then ((s.raiseError .frameTooLong).writeBuf 0 b).setCount 1
  else s.raiseError .frameTooLong

/-- The ten bytes evaluated at completion: `buf[0..=8]` and the byte of this step (R24, R66). -/
def State.frameWith (s : State) (b : Byte) : Frame := s.buf.set 9 b

/-- The checks before classification, in R72's order: the tail if enforced (R73), then the checksum
(R74). -/
def frameCheck (c : Config) (f : Frame) : Option Cause :=
  if c.tailCheck = true ∧ f[9] ≠ c.tail then some .badTail
  else if checksumValid f then none
  else some .checksumMismatch

/-- R75 with R76 to R82: the dispatch on (`f[1]`, `f[2]`). -/
def classify (f : Frame) : Except Cause Response :=
  let device := be16 f[6] f[7]
  if f[1] = rspData then .ok (.query (le16 f[2] f[3]) (le16 f[4] f[5]) device)
  else if f[1] ≠ rspReply then .error .unknownCommand
  else if f[2] = rspReportingMode then .ok (.setReportingMode f[3] f[4] device)
  else if f[2] = rspDeviceId then .ok (.setDeviceId device)
  else if f[2] = rspSleepWork then .ok (.setSleepWork f[3] f[4] device)
  else if f[2] = rspWorkingPeriod then .ok (.setWorkingPeriod f[3] f[4] device)
  else if f[2] = rspFirmware then .ok (.getFirmwareVersion f[3] f[4] f[5] device)
  else .error .unknownCommand

/-- A classification once the checks have been made: the first failing check stands before it (R72,
R88). -/
def afterChecks (c : Config) (f : Frame) (classified : Except Cause Response) : Except Cause Response :=
  match frameCheck c f with
  | some cause => .error cause
  | none => classified

/-- `decode(f)` of R71, R72. -/
def frameResult (c : Config) (f : Frame) : Except Cause Response := afterChecks c f (classify f)

/-- R66 once the classification is known: the tenth byte is stored, the response or the first failing
check or the unknown pair is reported, and the accumulator is Idle. -/
def State.completeFrame (s : State) (f : Frame) (classified : Except Cause Response) : State :=
  match afterChecks s.cfg f classified with
  | .ok r => ((s.writeBuf 9 f[9]).emitResponse r f).returnToIdle
  | .error cause => (s.writeBuf 9 f[9]).raiseError cause

/-- The accumulator's step on a received byte, R63 to R67, as 42_frame_accumulator.md section 3 has it. -/
def State.acceptByte (s : State) (b : Byte) : State :=
  if s.count = 0 then
    if b = headMarker then s.startFrame b else s.noEvent
  else if h : s.count ≤ 8 then s.appendByte b h
  else if s.count = 9 then s.completeFrame (s.frameWith b) (classify (s.frameWith b))
  else s.overflowByte b

/-- `HEAD` (R63): the byte `HEAD` is received. Its row's condition is Idle; when the accumulator is not
Idle the byte is "data like any other" and R65 to R67 say what it does (R68; log 8). -/
def execHead (s : State) : Host.Outcome State Fault Refusal := .next (s.acceptByte headMarker)

/-- `NOISE` (R64): another byte is received. Its row's condition is Idle; R65 to R67 otherwise (log 8). -/
def execNoise (b : Byte) (s : State) : Host.Outcome State Fault Refusal := .next (s.acceptByte b)

end Sys2Proof.Machine
end

