-- ==== Sys2Proof/Machine/Decoder.lean ====
section
/-! DEFINITION. The response decoder (43_response_decoder.md): the meaning of a complete frame of each
class, the checks of R72 included. Log 8: a meaning reads its frame from its operands and stores the tenth
byte, as the completion rule R66 does. -/

namespace Sys2Proof.Machine

/-- R76. -/
def execQueryResponse (pm25 pm10 device : Half) (env : Envelope) (s : State) :
    Host.Outcome State Fault Refusal :=
  .next (s.completeFrame
    (responseFrame env rspData (loByte pm25) (hiByte pm25) (loByte pm10) (hiByte pm10) device)
    (.ok (.query pm25 pm10 device)))

/-- R77. -/
def execSetReportingModeResponse (flag mode unused : Byte) (device : Half) (env : Envelope) (s : State) :
    Host.Outcome State Fault Refusal :=
  .next (s.completeFrame (responseFrame env rspReply rspReportingMode flag mode unused device)
    (.ok (.setReportingMode flag mode device)))

/-- R78. -/
def execSetDeviceIdResponse (u3 u4 u5 : Byte) (device : Half) (env : Envelope) (s : State) :
    Host.Outcome State Fault Refusal :=
  .next (s.completeFrame (responseFrame env rspReply rspDeviceId u3 u4 u5 device)
    (.ok (.setDeviceId device)))

/-- R79. -/
def execSetSleepWorkResponse (flag mode unused : Byte) (device : Half) (env : Envelope) (s : State) :
    Host.Outcome State Fault Refusal :=
  .next (s.completeFrame (responseFrame env rspReply rspSleepWork flag mode unused device)
    (.ok (.setSleepWork flag mode device)))

/-- R80. -/
def execSetWorkingPeriodResponse (flag period unused : Byte) (device : Half) (env : Envelope)
    (s : State) : Host.Outcome State Fault Refusal :=
  .next (s.completeFrame (responseFrame env rspReply rspWorkingPeriod flag period unused device)
    (.ok (.setWorkingPeriod flag period device)))

/-- R81. -/
def execGetFirmwareVersionResponse (year month day : Byte) (device : Half) (env : Envelope)
    (s : State) : Host.Outcome State Fault Refusal :=
  .next (s.completeFrame (responseFrame env rspReply rspFirmware year month day device)
    (.ok (.getFirmwareVersion year month day device)))

/-- R82. -/
def execUnknownCommand (id sub d1 d2 d3 : Byte) (device : Half) (env : Envelope) (s : State) :
    Host.Outcome State Fault Refusal :=
  .next (s.completeFrame (responseFrame env id sub d1 d2 d3 device) (.error .unknownCommand))

end Sys2Proof.Machine
end

