-- ==== Sys2Proof/Machine/Operands.lean ====
section
/-! DEFINITION. Operands: the command ports as operations (R17, R42, R46), a working period (R36, R61), the
views of a response's raw fields (R83, R84), and the inverse map of the encoder (R60). -/

namespace Sys2Proof.Machine

/-! Commands on the ports. -/

/-- `cmd_query`: 1 query, 0 set (R17, R42 a). -/
def accessOfPort (q : Bool) : Access := if q then .query else .set

/-- `cmd_mode` for SetReportingMode: 0 Active, 1 Query (R17). -/
def reportingModeOfPort (m : Bool) : ReportingMode := if m then .query else .active

/-- `cmd_mode` for SetSleepWork: 0 Sleep, 1 Work (R17). -/
def sleepWorkOfPort (m : Bool) : SleepWork := if m then .work else .sleep

/-- The command on the ports by `cmd_kind` (R46); none for the illegal kinds 6 and 7. A port the variant
does not use is ignored (R52). -/
def commandOfPorts (p : PortsIn) : Option Instr :=
  if p.cmdKind = 0 then
    some (.setReportingMode (accessOfPort p.cmdQuery) (reportingModeOfPort p.cmdMode))
  else if p.cmdKind = 1 then some .query
  else if p.cmdKind = 2 then some (.setDeviceId p.cmdId)
  else if p.cmdKind = 3 then
    some (.setSleepWork (accessOfPort p.cmdQuery) (sleepWorkOfPort p.cmdMode))
  else if p.cmdKind = 4 then some (.setWorkingPeriod (accessOfPort p.cmdQuery) p.cmdPeriod)
  else if p.cmdKind = 5 then some .getFirmwareVersion
  else none

/-- The ports that offer a command (R17, R46), the ports it does not use at 0; nothing is offered for an
operation of the receive side. -/
def portsOfCommand : Instr → PortsIn
  | .setReportingMode a m =>
    { PortsIn.idle with cmdValid := true, cmdKind := 0, cmdQuery := a == .query, cmdMode := m == .query }
  | .query => { PortsIn.idle with cmdValid := true, cmdKind := 1 }
  | .setDeviceId id => { PortsIn.idle with cmdValid := true, cmdKind := 2, cmdId := id }
  | .setSleepWork a m =>
    { PortsIn.idle with cmdValid := true, cmdKind := 3, cmdQuery := a == .query, cmdMode := m == .work }
  | .setWorkingPeriod a p =>
    { PortsIn.idle with cmdValid := true, cmdKind := 4, cmdQuery := a == .query, cmdPeriod := p }
  | .getFirmwareVersion => { PortsIn.idle with cmdValid := true, cmdKind := 5 }
  | .head => PortsIn.idle
  | .noise _ => PortsIn.idle
  | .queryResponse _ _ _ _ => PortsIn.idle
  | .setReportingModeResponse _ _ _ _ _ => PortsIn.idle
  | .setDeviceIdResponse _ _ _ _ _ => PortsIn.idle
  | .setSleepWorkResponse _ _ _ _ _ => PortsIn.idle
  | .setWorkingPeriodResponse _ _ _ _ _ => PortsIn.idle
  | .getFirmwareVersionResponse _ _ _ _ _ => PortsIn.idle
  | .unknownCommand _ _ _ _ _ _ _ => PortsIn.idle

/-- R53, the period half of the admission: whether the raw period byte is refused. -/
def periodRefused (period : Byte) : Bool := decide (periodMax < period.toNat)

/-! Working periods. -/

/-- The source's WorkingPeriod (R36, R61). -/
inductive WorkingPeriod where
  | continuous
  | periodic (n : Byte)
deriving DecidableEq, Repr

/-- R36: the total map from a received raw byte. -/
def WorkingPeriod.ofRaw (raw : Byte) : WorkingPeriod := if raw = 0 then .continuous else .periodic raw

/-- The raw byte of a working period (R42 c, R61). -/
def WorkingPeriod.raw : WorkingPeriod → Byte
  | .continuous => 0
  | .periodic n => n

/-- R61's only error. -/
inductive RangeError where
  | outOfRange
deriving DecidableEq, Repr

/-- R61: a working period from an integer of any sign and size. -/
def workingPeriodOf (v : Int) : Except RangeError WorkingPeriod :=
  if v < 0 ∨ (periodMax : Int) < v then .error .outOfRange
  else if v = 0 then .ok .continuous
  else .ok (.periodic (BitVec.ofInt 8 v))

/-! Views of raw fields (R83). -/

/-- A mode byte's view: a legal mode, or the raw byte when it is reserved (R35, R83). -/
inductive ModeView (α : Type) where
  | legal (m : α)
  | reserved (raw : Byte)
deriving DecidableEq, Repr

/-- R34, R83: the view `query`, for every value of the flag byte. -/
def queryView (flagRaw : Byte) : Bool := flagRaw == flagQuery

/-- R35, R83. -/
def reportingModeView (modeRaw : Byte) : ModeView ReportingMode :=
  if modeRaw = modeActive then .legal .active
  else if modeRaw = modeQuery then .legal .query
  else .reserved modeRaw

/-- R35, R83. -/
def sleepWorkView (modeRaw : Byte) : ModeView SleepWork :=
  if modeRaw = modeSleep then .legal .sleep
  else if modeRaw = modeWork then .legal .work
  else .reserved modeRaw

/-- R84: a particulate reading in µg/m³, the exact rational `raw / 10`. -/
def microgramsPerCubicMetre (raw : Half) : Rat := (raw.toNat : Rat) / 10

/-! The inverse map, for checking only (R60). -/

/-- What `parse_command` gives back; a mode and a period are the raw payload byte. -/
inductive ParsedCommand where
  | setReportingMode (query : Bool) (mode : Byte)
  | query
  | setDeviceId (id : Half)
  | setSleepWork (query : Bool) (mode : Byte)
  | setWorkingPeriod (query : Bool) (period : Byte)
  | getFirmwareVersion
deriving DecidableEq, Repr

/-- R60. -/
def parseCommand (c : Config) (p : List Byte) : Option ParsedCommand :=
  let q := p.getD 1 0 == flagQuery
  let sub := p.getD 0 0
  if sub = c.subReportingMode then some (.setReportingMode q (p.getD 2 0))
  else if sub = c.subQuery then some .query
  else if sub = c.subDeviceId then
    some (.setDeviceId (be16 (p.getD (c.cmdPayloadLen - 4) 0) (p.getD (c.cmdPayloadLen - 3) 0)))
  else if sub = c.subSleepWork then some (.setSleepWork q (p.getD 2 0))
  else if sub = c.subWorkingPeriod then some (.setWorkingPeriod q (p.getD 2 0))
  else if sub = c.subFirmware then some .getFirmwareVersion
  else none

/-- The semantic fields of a command as `parse_command` names them; none for a receive-side operation. -/
def parsedOf : Instr → Option ParsedCommand
  | .setReportingMode a m => some (.setReportingMode (a == .query) (reportingModeByte m))
  | .query => some .query
  | .setDeviceId id => some (.setDeviceId id)
  | .setSleepWork a m => some (.setSleepWork (a == .query) (sleepWorkByte m))
  | .setWorkingPeriod a p => some (.setWorkingPeriod (a == .query) p)
  | .getFirmwareVersion => some .getFirmwareVersion
  | .head => none
  | .noise _ => none
  | .queryResponse _ _ _ _ => none
  | .setReportingModeResponse _ _ _ _ _ => none
  | .setDeviceIdResponse _ _ _ _ _ => none
  | .setSleepWorkResponse _ _ _ _ _ => none
  | .setWorkingPeriodResponse _ _ _ _ _ => none
  | .getFirmwareVersionResponse _ _ _ _ _ => none
  | .unknownCommand _ _ _ _ _ _ _ => none

end Sys2Proof.Machine
end

