-- ==== Sys2Proof/Machine/Encoder.lean ====
section
/-! DEFINITION. The command encoder (41_command_encoder.md): the meaning of each command offered on the
transmit side. It reads the command and the parameters, and changes nothing of the receive side (R16). -/

namespace Sys2Proof.Machine

/-- R54. -/
def execSetReportingMode (access : Access) (mode : ReportingMode) (s : State) :
    Host.Outcome State Fault Refusal :=
  .next (s.transmit (reportingModePayload s.cfg access mode))

/-- R55. -/
def execQuery (s : State) : Host.Outcome State Fault Refusal := .next (s.transmit (queryPayload s.cfg))

/-- R56. -/
def execSetDeviceId (id : Half) (s : State) : Host.Outcome State Fault Refusal :=
  .next (s.transmit (deviceIdPayload s.cfg id))

/-- R57. -/
def execSetSleepWork (access : Access) (mode : SleepWork) (s : State) :
    Host.Outcome State Fault Refusal :=
  .next (s.transmit (sleepWorkPayload s.cfg access mode))

/-- R58, with R53: a period above `PERIOD_MAX` is refused, query or set, and nothing is sent. -/
def execSetWorkingPeriod (access : Access) (period : Byte) (s : State) :
    Host.Outcome State Fault Refusal :=
  .next (if periodRefused period then s.rejectCommand .periodRange
    else s.transmit (workingPeriodPayload s.cfg access period))

/-- R59. -/
def execGetFirmwareVersion (s : State) : Host.Outcome State Fault Refusal :=
  .next (s.transmit (firmwarePayload s.cfg))

end Sys2Proof.Machine
end

