-- ==== Sys2Proof/Machine/Dispatch.lean ====
section
/-! DEFINITION. The one dispatch from an operation to its meaning. -/

namespace Sys2Proof.Machine

/-- One direct call of a meaning per operation. -/
def exec (i : Instr) (s : State) : Host.Outcome State Fault Refusal :=
  match i with
  -- bytes received while Idle
  | .head => Sys2Proof.Machine.execHead s
  | .noise b => Sys2Proof.Machine.execNoise b s
  -- complete frames
  | .queryResponse pm25 pm10 device env => Sys2Proof.Machine.execQueryResponse pm25 pm10 device env s
  | .setReportingModeResponse flag mode unused device env => Sys2Proof.Machine.execSetReportingModeResponse flag mode unused device env s
  | .setDeviceIdResponse u3 u4 u5 device env => Sys2Proof.Machine.execSetDeviceIdResponse u3 u4 u5 device env s
  | .setSleepWorkResponse flag mode unused device env => Sys2Proof.Machine.execSetSleepWorkResponse flag mode unused device env s
  | .setWorkingPeriodResponse flag period unused device env => Sys2Proof.Machine.execSetWorkingPeriodResponse flag period unused device env s
  | .getFirmwareVersionResponse year month day device env => Sys2Proof.Machine.execGetFirmwareVersionResponse year month day device env s
  | .unknownCommand id sub d1 d2 d3 device env => Sys2Proof.Machine.execUnknownCommand id sub d1 d2 d3 device env s
  -- commands
  | .setReportingMode access mode => Sys2Proof.Machine.execSetReportingMode access mode s
  | .query => Sys2Proof.Machine.execQuery s
  | .setDeviceId id => Sys2Proof.Machine.execSetDeviceId id s
  | .setSleepWork access mode => Sys2Proof.Machine.execSetSleepWork access mode s
  | .setWorkingPeriod access period => Sys2Proof.Machine.execSetWorkingPeriod access period s
  | .getFirmwareVersion => Sys2Proof.Machine.execGetFirmwareVersion s

end Sys2Proof.Machine
end

