-- ==== Sys2Proof/Machine/Sides.lean ====
section
/-! DEFINITION. What one step does on each side (R7, R17): which operation the ports and the counter
select, and the steps that select none. -/

namespace Sys2Proof.Machine

/-- The operation a received byte selects: while Idle by the byte (R63, R64), at the tenth byte by the
complete frame (R66), otherwise none: the byte is appended (R65) or overflows (R67). -/
def State.fetch (s : State) (b : Byte) : Option Instr :=
  if s.count = 0 then some (decodeByte b)
  else if s.count = 9 then some (decodeFrame (s.frameWith b))
  else none

/-- The receive side of a step: reset before everything (R99), then no byte (R62), then the byte. -/
def receiveSide (p : PortsIn) (s : State) : Host.Outcome State Fault Refusal :=
  if p.rst then .next s.resetReceive
  else if !p.rxValid then .next s.noEvent
  else
    match s.fetch p.rxData with
    | some i => exec i s
    | none => .next (s.acceptByte p.rxData)

/-- The transmit side of a step: no command (R52), an illegal kind (R53), or the command. Reset does not
touch it (R99). -/
def transmitSide (p : PortsIn) (s : State) : Host.Outcome State Fault Refusal :=
  if !p.cmdValid then .next s.noCommand
  else
    match commandOfPorts p with
    | some i => exec i s
    | none => .next (s.rejectCommand .unknownKind)

/-- One outcome after another, the first stop standing. -/
def andThen (o : Host.Outcome State Fault Refusal)
    (k : State → Host.Outcome State Fault Refusal) : Host.Outcome State Fault Refusal :=
  match o with
  | .next s => k s
  | .fault r => .fault r
  | .refused r => .refused r

/-- The two sides of a step on one input. Their order has no effect (R26, R94; log 14). -/
def bothSides (p : PortsIn) (s : State) : Host.Outcome State Fault Refusal :=
  andThen (transmitSide p s) (receiveSide p)

/-- The state in which the next step runs a unit of a format (log 6): a byte is offered to an Idle
accumulator; a frame's tenth byte is offered after its first nine have been stored; a command is offered
on the transmit ports. A unit the decoder refuses places nothing. -/
def State.placeUnit (s : State) (fmt : Format) (u : List Byte) : State :=
  match decode Config.default fmt u with
  | .error _ => s
  | .ok i =>
    match fmt with
    | .byte8 => { s with count := 0, inputs := PortsIn.byte (byteAt u 0) :: s.inputs }
    | .rsp10 =>
      { s with
        count := 9
        buf := #v[byteAt u 0, byteAt u 1, byteAt u 2, byteAt u 3, byteAt u 4, byteAt u 5, byteAt u 6,
          byteAt u 7, byteAt u 8, s.buf[9]]
        inputs := PortsIn.byte (byteAt u 9) :: s.inputs }
    | .cmd => { s with inputs := portsOfCommand i :: s.inputs }

/-- A table word placed where the next step takes it. -/
def State.placeTableWord (s : State) (nbits w : Nat) : State :=
  match tableFormat nbits with
  | none => s
  | some fmt => s.placeUnit fmt (tableUnit fmt nbits w)

end Sys2Proof.Machine
end

