-- ==== Sys2Proof/Machine/Step.lean ====
section
/-! DEFINITION. One step of the block (R7), and the host's placing of a table word. -/

namespace Sys2Proof.Machine

/-- One step: the input ports' values are taken, and both sides step on them (R7). -/
def step (s : State) : Host.Outcome State Fault Refusal := bothSides s.nextInput s.advance

/-- `s` with the unit of a table word where the next step takes it. -/
def State.withFetchWord (s : State) (nbits w : Nat) : State := s.placeTableWord nbits w

end Sys2Proof.Machine
end

