-- ==== Sys2Proof/Safety.lean ====
section
/-! DEFINITION. What claims are stated in: the view of `count` (R12), legal states (R13), runs, and the
shape of a command frame (R39, R41). -/

namespace Sys2Proof.Machine

/-- The two states of the accumulator, a view of `count` (R12). -/
inductive Phase where
  | idle
  | accumulating
deriving DecidableEq, Repr

/-- R12. -/
def State.phase (s : State) : Phase := if s.count = 0 then .idle else .accumulating

/-- The counter's value fits its register of `COUNT_W` bits (R10). -/
abbrev State.CountFits (s : State) : Prop := s.count < 2 ^ s.cfg.countWidth

/-- R13 items a and b. -/
abbrev State.Legal (s : State) : Prop :=
  s.count ≤ 9 ∧ (1 ≤ s.count → s.buf[0] = headMarker)

/-- The event of a decoder's result (R66). -/
def eventOf : Except Cause Response → Event
  | .ok r => .response r
  | .error cause => .error cause

/-- The event a complete frame gives (R66). -/
def frameEvent (c : Config) (f : Frame) : Event := eventOf (frameResult c f)

/-- What an event drives on the ports, given the frame it is about (R85). -/
def portsOfEvent (f : Frame) : Event → EventPorts
  | .response r => EventPorts.ofResponse r f
  | .error cause => EventPorts.ofError cause

/-- The number of bytes offered to the accumulator by a list of inputs: a byte offered together with reset
is ignored (R99). -/
def offeredBytes (ps : List PortsIn) : Nat := ps.countP fun p => !p.rst && p.rxValid

/-- `frame` is the command frame of the data section `p[0]` to `p[L-1]` (R39), with `p[i] = named i` below
the all-ones marker and `named i` 0x00 where no field stands (R41). -/
def IsCommandFrame (c : Config) (named : Nat → Byte) (frame : List Byte) : Prop :=
  frame.length = c.cmdPayloadLen + 4 ∧
  frame[0]? = some headMarker ∧
  frame[1]? = some c.cmdId ∧
  (∀ i, i < c.cmdPayloadLen - 2 → frame[i + 2]? = some (named i)) ∧
  frame[c.cmdPayloadLen]? = some 0xFF ∧
  frame[c.cmdPayloadLen + 1]? = some 0xFF ∧
  frame[c.cmdPayloadLen + 2]? = some (checksum (payloadOf c frame)) ∧
  frame[c.cmdPayloadLen + 3]? = some c.tail

/-- What an operation of the receive side leaves alone: parameters, waiting inputs and the transmit side
(R26). -/
abbrev State.KeepsTransmit (s t : State) : Prop :=
  t.cfg = s.cfg ∧ t.inputs = s.inputs ∧ t.tx = s.tx ∧ t.sent = s.sent

/-- What an operation of the transmit side leaves alone: parameters, waiting inputs and the receive side
(R16, R26). -/
abbrev State.KeepsReceive (s t : State) : Prop :=
  t.cfg = s.cfg ∧ t.inputs = s.inputs ∧ t.count = s.count ∧ (∀ i : Fin 10, t.buf[i] = s.buf[i]) ∧
    t.evt = s.evt ∧ t.events = s.events

/-- `t` is `s` after a frame whose tenth byte is `tenth` has given the event `e` on the ports `ports`
(R66, R89): Idle, the tenth byte stored, the other nine registers and the transmit side unchanged. -/
abbrev State.AfterFrame (s t : State) (tenth : Byte) (e : Event) (ports : EventPorts) : Prop :=
  t.count = 0 ∧ t.buf[9] = tenth ∧ (∀ i : Fin 10, i ≠ 9 → t.buf[i] = s.buf[i]) ∧
    t.evt = ports ∧ t.events = s.events ++ [e] ∧ s.KeepsTransmit t

/-- `t` is `s` after a command has left as the frame of the data section `named` (R52): the ports and the
transmit stream carry it, nothing is refused, and the receive side is unchanged. -/
abbrev State.AfterCommand (s t : State) (named : Nat → Byte) : Prop :=
  IsCommandFrame s.cfg named t.tx.frame ∧ t.tx.valid = true ∧ t.tx.reject = false ∧
    t.tx.rejectCause = 0 ∧ t.sent = s.sent ++ [t.tx.frame] ∧ s.KeepsReceive t

/-- `t` is `s` after a command has been refused with the cause code `cause` (R53): no byte is sent. -/
abbrev State.AfterRefusal (s t : State) (cause : BitVec 2) : Prop :=
  t.tx.valid = false ∧ t.tx.frame = List.replicate (s.cfg.cmdPayloadLen + 4) 0 ∧ t.tx.reject = true ∧
    t.tx.rejectCause = cause ∧ t.sent = s.sent ∧ s.KeepsReceive t

/-- The tail check passes (R73): it is off, or the tail marker is right. -/
abbrev TailPasses (c : Config) (f : Frame) : Prop := c.tailCheck = true → f[9] = c.tail

/-- The low byte of the sum of the bytes at offsets 2 to 7 is the byte at offset 8 (R49), in unbounded
arithmetic. -/
abbrev SumMatches (f : Frame) : Prop :=
  (f[2].toNat + f[3].toNat + f[4].toNat + f[5].toNat + f[6].toNat + f[7].toNat) % 256 = f[8].toNat

end Sys2Proof.Machine
end

