-- ==== Sys2Proof/Certificates/Slice0/Obligations.lean ====
section
/-! DEFINITION. The statements for the provers. Each docstring names the rules of spec/ it formalises. -/

open Sys2Proof Sys2Proof.Machine

/-! Encoding. -/

/-- Decoding an encoded well-formed operation gives it back, for every operation, every operand and every
legal value of the parameters (30_encoding.md: R29, R38, R39, R41). That a frame which fails a check has an
operation at all is the model's reading (log 9). -/
def Obligations.DecodeOfEncodeIsTheOperation : Prop :=
  ∀ (c : Config) (i : Instr), c.Legal → WellFormed i = true → decode c i.format (encode c i) = .ok i

/-- Every ten bytes are the bytes of the well-formed operation they decode to: the frame decoder drops no
bit. That it is total, a frame that fails the tail or the checksum check having the row of its pair, is the
model's reading (DEDUCED, log 9): the table applies a row, and R75 the dispatch, to a frame that has passed
them. -/
def Obligations.EncodeOfDecodedFrameIsTheFrame : Prop :=
  ∀ (c : Config) (f : Frame), ∃ i, decode c .rsp10 f.toList = .ok i ∧ i.format = .rsp10 ∧
    WellFormed i = true ∧ encode c i = f.toList

/-- A command frame that decodes is the encoding of a well-formed command in every byte but the checksum
byte, which the table's rows mask (the model's choice, log 10). That a flag or mode above 0x01 and a period
above 30 do not decode is the model's choice too (log 22). -/
def Obligations.DecodedCommandFrameIsEncoded : Prop :=
  ∀ (c : Config) (u : List Byte) (i : Instr), c.Legal → decode c .cmd u = .ok i →
    WellFormed i = true ∧ i.format = .cmd ∧
    encode c i = u.set (c.cmdPayloadLen + 2) (checksum (payloadOf c u))

/-- Words written out from the spec's encodings and worked examples (R63, R64, R76, R80, R82, R56) decode
to the operations they stand for. The byte order of a word is the model's choice (log 5). -/
def Obligations.WordsOfTheSpecDecode : Prop :=
  decodeTableWord 8 0xAA = some .head ∧
  decodeTableWord 8 0xAB = some (.noise 0xAB) ∧
  decodeTableWord 80 0xAAC034005000A16085AB =
    some (.queryResponse 52 80 0xA160 ⟨0xAA, 0x85, 0xAB⟩) ∧
  decodeTableWord 80 0xAAC508000500A1600EAB =
    some (.setWorkingPeriodResponse 0 5 0 0xA160 ⟨0xAA, 0x0E, 0xAB⟩) ∧
  decodeTableWord 80 0xAAC504000000A16005AB =
    some (.unknownCommand 0xC5 0x04 0 0 0 0xA160 ⟨0xAA, 0x05, 0xAB⟩) ∧
  decodeTableWord 152 0xAAB40500000000000000000000A001FFFFA4AB = some (.setDeviceId 0xA001)

/-- The decided values of the static parameters, and that they are legal (R4). -/
def Obligations.DecidedParameterValues : Prop :=
  headMarker = 0xAA ∧ Config.default.tail = 0xAB ∧ rspData = 0xC0 ∧ rspReply = 0xC5 ∧ periodMax = 30 ∧
  Config.default.tailCheck = false ∧ Config.default.cmdId = 0xB4 ∧ Config.default.cmdPayloadLen = 15 ∧
  Config.default.cmdFrameLen = 19 ∧ cmdTarget = 0xFF ∧ Config.default.subReportingMode = 0x02 ∧
  Config.default.subQuery = 0x04 ∧ Config.default.subDeviceId = 0x05 ∧
  Config.default.subSleepWork = 0x06 ∧ Config.default.subFirmware = 0x07 ∧
  Config.default.subWorkingPeriod = 0x08 ∧ Config.default.countWidth = 4 ∧ Config.default.Legal ∧
  Config.default.LegalCount

/-! The step. -/

/-- A step runs the operation that the received byte, the complete frame or the command ports select, and
nothing else on that side; the other side is run beside it (R7, R63, R64, R66, R52). That the tenth byte
runs the operation of the frame's pair also for a frame that fails a check, which that operation then
reports, is the model's reading (DEDUCED, log 9); that the transmit side runs first is its choice (log 14). -/
def Obligations.StepRunsTheSelectedOperation : Prop :=
  ∀ (s : State) (p : PortsIn), s.nextInput = p →
    step s = andThen (transmitSide p s.advance) (receiveSide p) ∧
    (∀ u : State, u.count = 0 → p.rst = false → p.rxValid = true →
      receiveSide p u = exec (decodeByte p.rxData) u) ∧
    (∀ u : State, u.count = 9 → p.rst = false → p.rxValid = true →
      receiveSide p u = exec (decodeFrame (u.buf.set 9 p.rxData)) u) ∧
    (∀ (u : State) (i : Instr), p.cmdValid = true → commandOfPorts p = some i →
      transmitSide p u = exec i u)

/-- Every step ends in a next state: nothing stops the block (R107 "every step terminates"). -/
def Obligations.EveryStepEndsInANextState : Prop := ∀ s : State, ∃ t, step s = .next t

/-- Every operation ends in a next state from every state, and leaves the other side alone (R26; the
model's choice outside the operation's own phase, log 8, and its reading of a frame that fails a check,
log 9). -/
def Obligations.EveryOperationCompletesAndKeepsTheOtherSide : Prop :=
  ∀ (i : Instr) (s : State), ∃ t, exec i s = .next t ∧
    (i.format = .cmd → s.KeepsReceive t) ∧ (i.format ≠ .cmd → s.KeepsTransmit t)

/-- A step takes exactly one record of inputs and changes no parameter (R4 "None can be changed while the
block runs", R7). -/
def Obligations.StepKeepsTheParameters : Prop :=
  ∀ s t : State, step s = .next t → t.cfg = s.cfg ∧ t.inputs = s.inputs.tail

/-! The accumulator. -/

/-- R62. -/
def Obligations.NoByteChangesNothing : Prop :=
  ∀ (s : State) (p : PortsIn), s.nextInput = p → p.rst = false → p.rxValid = false →
    ∃ t, step s = .next t ∧ t.count = s.count ∧ (∀ i : Fin 10, t.buf[i] = s.buf[i]) ∧
      t.evt.valid = false ∧ t.events = s.events ∧ t.cfg = s.cfg

/-- R63, for every legal `COUNT_W`. -/
def Obligations.HeaderWhileIdleStartsAFrame : Prop :=
  ∀ s : State, s.cfg.LegalCount → s.count = 0 → ∃ t, exec .head s = .next t ∧ t.count = 1 ∧ t.buf[0] = 0xAA ∧
    (∀ i : Fin 10, i ≠ 0 → t.buf[i] = s.buf[i]) ∧
    t.evt = EventPorts.idle ∧ t.events = s.events ∧ s.KeepsTransmit t

/-- R64. -/
def Obligations.NoiseWhileIdleIsDropped : Prop :=
  ∀ (s : State) (b : Byte), s.count = 0 → b ≠ 0xAA → ∃ t, exec (.noise b) s = .next t ∧ t.count = 0 ∧
    (∀ i : Fin 10, t.buf[i] = s.buf[i]) ∧
    t.evt = EventPorts.idle ∧ t.events = s.events ∧ s.KeepsTransmit t

/-- R65, for every legal `COUNT_W`: any byte, `HEAD` and `TAIL` among them. -/
def Obligations.ByteInMidFrameIsAppended : Prop :=
  ∀ (s : State) (p : PortsIn), s.nextInput = p → p.rst = false → p.rxValid = true →
    ∀ k : Fin 10, 1 ≤ k.val → k.val ≤ 8 → s.count = k.val → s.cfg.LegalCount →
    ∃ t, step s = .next t ∧ t.count = k.val + 1 ∧ t.buf[k] = p.rxData ∧
      (∀ i : Fin 10, i ≠ k → t.buf[i] = s.buf[i]) ∧
      t.evt = EventPorts.idle ∧ t.events = s.events ∧ t.cfg = s.cfg

/-- R66: the tenth byte completes the frame, whose event is the decoder's result on the nine stored bytes
and this one, and the accumulator is Idle. -/
def Obligations.TenthByteCompletesTheFrame : Prop :=
  ∀ (s : State) (p : PortsIn), s.nextInput = p → p.rst = false → p.rxValid = true → s.count = 9 →
    ∃ t, step s = .next t ∧ t.count = 0 ∧ t.buf[9] = p.rxData ∧
      (∀ i : Fin 10, i ≠ 9 → t.buf[i] = s.buf[i]) ∧
      t.events = s.events ++ [frameEvent s.cfg (s.buf.set 9 p.rxData)] ∧
      t.evt = portsOfEvent (s.buf.set 9 p.rxData) (frameEvent s.cfg (s.buf.set 9 p.rxData)) ∧
      t.cfg = s.cfg

/-- R67, for every legal `COUNT_W`: from an illegal count, 10 or more, one error, then the byte as one
received while Idle. -/
def Obligations.OverflowReportsAndResynchronises : Prop :=
  ∀ (s : State) (p : PortsIn), s.nextInput = p → p.rst = false → p.rxValid = true →
    10 ≤ s.count → s.cfg.LegalCount →
    ∃ t, step s = .next t ∧ t.events = s.events ++ [.error .frameTooLong] ∧
      t.evt = { EventPorts.idle with valid := true, err := true, code := 1 } ∧
      (p.rxData = 0xAA → t.count = 1 ∧ t.buf[0] = 0xAA) ∧
      (p.rxData ≠ 0xAA → t.count = 0 ∧ t.buf[0] = s.buf[0]) ∧
      (∀ i : Fin 10, i ≠ 0 → t.buf[i] = s.buf[i]) ∧ t.cfg = s.cfg

/-- The byte rows outside Idle do what the accumulator does with that byte (R65 to R68; the model's choice
for an operation outside its row's condition, log 8). -/
def Obligations.ByteRowsOutsideIdleAreTheAccumulator : Prop :=
  ∀ (s : State) (b : Byte), ∃ t, exec (decodeByte b) s = .next t ∧
    receiveSide (PortsIn.byte b) s = .next t

/-- R99, R19: reset beats every byte; the transmit side does what it does in a step without reset. -/
def Obligations.ResetClearsTheReceiveSideOnly : Prop :=
  ∀ (s : State) (p : PortsIn), s.nextInput = p → p.rst = true →
    ∃ t u, step s = .next t ∧ t.count = 0 ∧ (∀ i : Fin 10, t.buf[i] = 0x00) ∧
      t.evt = EventPorts.idle ∧ t.events = s.events ∧ t.cfg = s.cfg ∧
      transmitSide { p with rst := false } s.advance = .next u ∧ t.tx = u.tx ∧ t.sent = u.sent

/-- The state after reset holds the values of R19 and is legal; the ports are quiet and the streams empty
(the model's own fields, log 16). -/
def Obligations.ResetStateHoldsTheResetValues : Prop :=
  State.reset.count = 0 ∧ (∀ i : Fin 10, State.reset.buf[i] = 0x00) ∧ State.reset.Legal ∧
  State.reset.evt = EventPorts.idle ∧ State.reset.tx = TxPorts.idle Config.default ∧
  State.reset.cfg = Config.default ∧ State.reset.inputs = [] ∧ State.reset.events = [] ∧
  State.reset.sent = []

/-- Items a and b of R13, which the spec derives from R62 to R67: every step keeps them, reset or not,
whatever is offered. -/
def Obligations.LegalStatesStayLegal : Prop :=
  ∀ s t : State, s.Legal → step s = .next t → t.Legal

/-- Item c of R13, which the spec derives: from a legal count a step gives at most one event, only at the
tenth byte, and never `FrameTooLong`. -/
def Obligations.LegalCountsNeverOverflow : Prop :=
  ∀ s t : State, s.count ≤ 9 → step s = .next t →
    t.events = s.events ∨
    (s.count = 9 ∧ s.nextInput.rst = false ∧ s.nextInput.rxValid = true ∧
      ∃ e, e ≠ Event.error .frameTooLong ∧ t.events = s.events ++ [e])

/-- Item e of R13, which the spec derives: from Idle, `n` steps give at most one event for ten bytes. -/
def Obligations.EventsAreAtMostATenthOfTheBytes : Prop :=
  ∀ (n : Nat) (s t : State), s.count = 0 → Host.Core.run core n s = .next t →
    ∃ es, t.events = s.events ++ es ∧ 10 * es.length ≤ offeredBytes (s.inputs.take n)

/-- Resynchronisation (R69, which the spec derives): from Idle, bytes other than 0xAA and then any ten
bytes that begin with 0xAA give no event before the last byte and exactly the event of those ten at it. -/
def Obligations.HeaderAlignedFrameIsDecodedAfterNoise : Prop :=
  ∀ (s : State) (noise : List Byte) (f : Frame) (rest : List PortsIn),
    s.cfg.LegalCount → s.count = 0 → (∀ b ∈ noise, b ≠ 0xAA) → f[0] = 0xAA →
    s.inputs = (noise ++ f.toList).map PortsIn.byte ++ rest →
    (∀ k, k < noise.length + 10 →
      ∃ u : State, Host.Core.run core k s = .next u ∧ u.events = s.events) ∧
    ∃ t : State, Host.Core.run core (noise.length + 10) s = .next t ∧ t.count = 0 ∧ t.buf = f ∧
      t.events = s.events ++ [frameEvent s.cfg f] ∧ t.inputs = rest

/-- A block in any state whatever, never reset, is legal after at most ten offered bytes (R101, which the
spec derives). -/
def Obligations.AnyStateIsLegalWithinTenBytes : Prop :=
  ∀ (s : State) (bytes : List Byte) (rest : List PortsIn), s.cfg.LegalCount →
    bytes.length = 10 →
    s.inputs = bytes.map PortsIn.byte ++ rest →
    ∃ k, k ≤ 10 ∧ ∃ t : State, Host.Core.run core k s = .next t ∧ t.Legal

/-! The ports. -/

/-- R18: ports that carry nothing are 0. -/
def Obligations.QuietPortsAreZero : Prop :=
  ∀ s t : State, step s = .next t →
    (t.evt.valid = false → t.evt.err = false ∧ t.evt.code = 0 ∧ t.evt.d0 = 0 ∧ t.evt.d1 = 0 ∧
      t.evt.d2 = 0 ∧ t.evt.d3 = 0 ∧ t.evt.device = 0) ∧
    (t.evt.err = true → t.evt.d0 = 0 ∧ t.evt.d1 = 0 ∧ t.evt.d2 = 0 ∧ t.evt.d3 = 0 ∧
      t.evt.device = 0) ∧
    (t.tx.valid = false → t.tx.frame = List.replicate (s.cfg.cmdPayloadLen + 4) 0) ∧
    (t.tx.reject = false → t.tx.rejectCause = 0)

/-- At most one event a step, appended to the stream in order, and shown on the ports in that step: a
response only at the tenth byte, with the data of the nine stored bytes and this one (R25, R85, R88). -/
def Obligations.EventPortsShowTheStepsEvent : Prop :=
  ∀ s t : State, step s = .next t →
    (t.evt = EventPorts.idle ∧ t.events = s.events) ∨
    ∃ e : Event, t.events = s.events ++ [e] ∧
      t.evt = portsOfEvent (s.buf.set 9 s.nextInput.rxData) e ∧ t.evt.valid = true ∧
      (∀ r, e = .response r → s.count = 9 ∧ s.nextInput.rst = false ∧ s.nextInput.rxValid = true)

/-- The transmit stream grows by exactly the frames that appear on the ports (R28). -/
def Obligations.TransmitStreamGrowsByTheFramesShown : Prop :=
  ∀ s t : State, step s = .next t →
    t.sent = if t.tx.valid = true then s.sent ++ [t.tx.frame] else s.sent

/-- What the receive side does depends on the parameters, `count`, `buf` and the receive ports only, and
what the transmit side puts out depends on the parameters and the command ports only (R9, R16, R26). -/
def Obligations.SidesDoNotInteract : Prop :=
  ∀ s s' t t' : State, step s = .next t → step s' = .next t' → s'.cfg = s.cfg →
    (s'.count = s.count → s'.buf = s.buf → s'.nextInput.rst = s.nextInput.rst →
      s'.nextInput.rxValid = s.nextInput.rxValid → s'.nextInput.rxData = s.nextInput.rxData →
      t'.count = t.count ∧ t'.buf = t.buf ∧ t'.evt = t.evt) ∧
    (s'.nextInput.cmdValid = s.nextInput.cmdValid → s'.nextInput.cmdKind = s.nextInput.cmdKind →
      s'.nextInput.cmdQuery = s.nextInput.cmdQuery → s'.nextInput.cmdMode = s.nextInput.cmdMode →
      s'.nextInput.cmdPeriod = s.nextInput.cmdPeriod → s'.nextInput.cmdId = s.nextInput.cmdId →
      t'.tx = t.tx)

/-- No schedule of the two sides changes what either does (R94). -/
def Obligations.OrderOfTheSidesDoesNotMatter : Prop :=
  ∀ (p : PortsIn) (s : State),
    andThen (transmitSide p s) (receiveSide p) = andThen (receiveSide p s) (transmitSide p)

/-! The checksum. -/

/-- R47: the low 8 bits of the unsigned 16-bit sum of all bytes, which are those of their true sum. -/
def Obligations.ChecksumIsTheLowByteOfTheSum : Prop :=
  ∀ s : List Byte, (checksum s).toNat = (s.map BitVec.toNat).sum % 65536 % 256 ∧
    (checksum s).toNat = (s.map BitVec.toNat).sum % 256

/-- R51 items a and b, which the spec derives: changing one byte at offsets 2 to 8 of a checksum-valid
frame gives `ChecksumMismatch`, provided the tail check passes. -/
def Obligations.OneChangedByteIsAChecksumMismatch : Prop :=
  ∀ (c : Config) (f : Frame) (i : Fin 10) (v : Byte), 2 ≤ i.val → i.val ≤ 8 → SumMatches f →
    TailPasses c f → v ≠ f[i] → frameResult c (f.set i v) = .error .checksumMismatch

/-- The command id is not protected (R105, a consequence the spec draws): a good frame of any class with
its offset 1 changed to 0xC0 is accepted as a QueryResponse. -/
def Obligations.ChangedCommandIdIsAcceptedAsAQuery : Prop :=
  ∀ (c : Config) (f : Frame), SumMatches f → TailPasses c f →
    frameResult c (f.set 1 0xC0) =
      .ok (.query (le16 f[2] f[3]) (le16 f[4] f[5]) (be16 f[6] f[7]))

/-! The response decoder. -/

/-- R76, in its row's phase: nine bytes counted, and stored as `f[0]` to `f[8]`. -/
def Obligations.GoodQueryResponseIsReported : Prop :=
  ∀ (s : State) (f : Frame), s.count = 9 → (∀ i : Fin 10, i ≠ 9 → s.buf[i] = f[i]) →
    f[1] = 0xC0 → SumMatches f → TailPasses s.cfg f →
    ∃ pm25 pm10 device t, decodeFrame f = .queryResponse pm25 pm10 device (envelopeOf f) ∧
      pm25.toNat = f[2].toNat + 256 * f[3].toNat ∧ pm10.toNat = f[4].toNat + 256 * f[5].toNat ∧
      device.toNat = 256 * f[6].toNat + f[7].toNat ∧
      exec (.queryResponse pm25 pm10 device (envelopeOf f)) s = .next t ∧
      s.AfterFrame t f[9] (.response (.query pm25 pm10 device))
        ⟨true, false, 0, f[2], f[3], f[4], f[5], device⟩ ∧
      microgramsPerCubicMetre pm25 * 10 = (pm25.toNat : Rat) ∧
      microgramsPerCubicMetre pm10 * 10 = (pm10.toNat : Rat)

/-- R77, in its row's phase: nine bytes counted, and stored as `f[0]` to `f[8]`. -/
def Obligations.GoodReportingModeResponseIsReported : Prop :=
  ∀ (s : State) (f : Frame), s.count = 9 → (∀ i : Fin 10, i ≠ 9 → s.buf[i] = f[i]) →
    f[1] = 0xC5 → f[2] = 0x02 → SumMatches f → TailPasses s.cfg f →
    ∃ device t, decodeFrame f = .setReportingModeResponse f[3] f[4] f[5] device (envelopeOf f) ∧
      device.toNat = 256 * f[6].toNat + f[7].toNat ∧
      exec (.setReportingModeResponse f[3] f[4] f[5] device (envelopeOf f)) s = .next t ∧
      s.AfterFrame t f[9] (.response (.setReportingMode f[3] f[4] device))
        ⟨true, false, 1, 0x02, f[3], f[4], f[5], device⟩ ∧
      (queryView f[3] = true ↔ f[3] = 0x00) ∧
      (reportingModeView f[4] = .legal .active ↔ f[4] = 0x00) ∧
      (reportingModeView f[4] = .legal .query ↔ f[4] = 0x01)

/-- R78, in its row's phase: nine bytes counted, and stored as `f[0]` to `f[8]`. -/
def Obligations.GoodDeviceIdResponseIsReported : Prop :=
  ∀ (s : State) (f : Frame), s.count = 9 → (∀ i : Fin 10, i ≠ 9 → s.buf[i] = f[i]) →
    f[1] = 0xC5 → f[2] = 0x05 → SumMatches f → TailPasses s.cfg f →
    ∃ device t, decodeFrame f = .setDeviceIdResponse f[3] f[4] f[5] device (envelopeOf f) ∧
      device.toNat = 256 * f[6].toNat + f[7].toNat ∧
      exec (.setDeviceIdResponse f[3] f[4] f[5] device (envelopeOf f)) s = .next t ∧
      s.AfterFrame t f[9] (.response (.setDeviceId device))
        ⟨true, false, 2, 0x05, f[3], f[4], f[5], device⟩

/-- R79, in its row's phase: nine bytes counted, and stored as `f[0]` to `f[8]`. -/
def Obligations.GoodSleepWorkResponseIsReported : Prop :=
  ∀ (s : State) (f : Frame), s.count = 9 → (∀ i : Fin 10, i ≠ 9 → s.buf[i] = f[i]) →
    f[1] = 0xC5 → f[2] = 0x06 → SumMatches f → TailPasses s.cfg f →
    ∃ device t, decodeFrame f = .setSleepWorkResponse f[3] f[4] f[5] device (envelopeOf f) ∧
      device.toNat = 256 * f[6].toNat + f[7].toNat ∧
      exec (.setSleepWorkResponse f[3] f[4] f[5] device (envelopeOf f)) s = .next t ∧
      s.AfterFrame t f[9] (.response (.setSleepWork f[3] f[4] device))
        ⟨true, false, 3, 0x06, f[3], f[4], f[5], device⟩ ∧
      (queryView f[3] = true ↔ f[3] = 0x00) ∧
      (sleepWorkView f[4] = .legal .sleep ↔ f[4] = 0x00) ∧
      (sleepWorkView f[4] = .legal .work ↔ f[4] = 0x01)

/-- R80, in its row's phase: nine bytes counted, and stored as `f[0]` to `f[8]`. -/
def Obligations.GoodWorkingPeriodResponseIsReported : Prop :=
  ∀ (s : State) (f : Frame), s.count = 9 → (∀ i : Fin 10, i ≠ 9 → s.buf[i] = f[i]) →
    f[1] = 0xC5 → f[2] = 0x08 → SumMatches f → TailPasses s.cfg f →
    ∃ device t, decodeFrame f = .setWorkingPeriodResponse f[3] f[4] f[5] device (envelopeOf f) ∧
      device.toNat = 256 * f[6].toNat + f[7].toNat ∧
      exec (.setWorkingPeriodResponse f[3] f[4] f[5] device (envelopeOf f)) s = .next t ∧
      s.AfterFrame t f[9] (.response (.setWorkingPeriod f[3] f[4] device))
        ⟨true, false, 4, 0x08, f[3], f[4], f[5], device⟩ ∧
      (queryView f[3] = true ↔ f[3] = 0x00) ∧
      WorkingPeriod.ofRaw f[4] = (if f[4] = 0x00 then .continuous else .periodic f[4])

/-- R81, in its row's phase: nine bytes counted, and stored as `f[0]` to `f[8]`. -/
def Obligations.GoodFirmwareVersionResponseIsReported : Prop :=
  ∀ (s : State) (f : Frame), s.count = 9 → (∀ i : Fin 10, i ≠ 9 → s.buf[i] = f[i]) →
    f[1] = 0xC5 → f[2] = 0x07 → SumMatches f → TailPasses s.cfg f →
    ∃ device t, decodeFrame f = .getFirmwareVersionResponse f[3] f[4] f[5] device (envelopeOf f) ∧
      device.toNat = 256 * f[6].toNat + f[7].toNat ∧
      exec (.getFirmwareVersionResponse f[3] f[4] f[5] device (envelopeOf f)) s = .next t ∧
      s.AfterFrame t f[9] (.response (.getFirmwareVersion f[3] f[4] f[5] device))
        ⟨true, false, 5, 0x07, f[3], f[4], f[5], device⟩

/-- R82: a frame that passes the checks and whose pair is not in R38's table, in its row's phase. -/
def Obligations.UnknownPairIsReported : Prop :=
  ∀ (s : State) (f : Frame), s.count = 9 → (∀ i : Fin 10, i ≠ 9 → s.buf[i] = f[i]) →
    f[1] ≠ 0xC0 → ¬(f[1] = 0xC5 ∧ f[2] ∈ [(0x02 : Byte), 0x05, 0x06, 0x08, 0x07]) → SumMatches f →
    TailPasses s.cfg f →
    ∃ device t, decodeFrame f = .unknownCommand f[1] f[2] f[3] f[4] f[5] device (envelopeOf f) ∧
      exec (.unknownCommand f[1] f[2] f[3] f[4] f[5] device (envelopeOf f)) s = .next t ∧
      s.AfterFrame t f[9] (.error .unknownCommand) ⟨true, true, 3, 0, 0, 0, 0, 0⟩

/-- R74, R72: a frame of any class whose checksum is wrong, once the tail check passes, when its tenth
byte is received. -/
def Obligations.WrongChecksumIsReported : Prop :=
  ∀ (s : State) (p : PortsIn) (f : Frame), s.count = 9 → p.rst = false → p.rxValid = true →
    s.buf.set 9 p.rxData = f → TailPasses s.cfg f → ¬SumMatches f →
    ∃ t, receiveSide p s = .next t ∧
      s.AfterFrame t f[9] (.error .checksumMismatch) ⟨true, true, 2, 0, 0, 0, 0, 0⟩

/-- R73, R72: a frame of any class with a wrong tail, when the tail is enforced and the tenth byte is
received, before every other defect; when it is not enforced the tail byte plays no part. -/
def Obligations.WrongTailIsReportedFirst : Prop :=
  Config.default.tail = 0xAB ∧ Config.default.tailCheck = false ∧
  (∀ (s : State) (p : PortsIn) (f : Frame), s.count = 9 → p.rst = false → p.rxValid = true →
    s.buf.set 9 p.rxData = f → s.cfg.tailCheck = true → f[9] ≠ s.cfg.tail →
    ∃ t, receiveSide p s = .next t ∧
      s.AfterFrame t f[9] (.error .badTail) ⟨true, true, 4, 0, 0, 0, 0, 0⟩) ∧
  ∀ (c : Config) (f : Frame) (v : Byte), c.tailCheck = false →
    frameResult c (f.set 9 v) = frameResult c f

/-- R83: the table of views, and the total map of R36. -/
def Obligations.ViewsOfRawFields : Prop :=
  ∀ raw : Byte,
    (queryView raw = true ↔ raw = 0x00) ∧
    (reportingModeView raw = .legal .active ↔ raw = 0x00) ∧
    (reportingModeView raw = .legal .query ↔ raw = 0x01) ∧
    (2 ≤ raw.toNat → reportingModeView raw = .reserved raw) ∧
    (sleepWorkView raw = .legal .sleep ↔ raw = 0x00) ∧
    (sleepWorkView raw = .legal .work ↔ raw = 0x01) ∧
    (2 ≤ raw.toNat → sleepWorkView raw = .reserved raw) ∧
    (WorkingPeriod.ofRaw raw = .continuous ↔ raw = 0x00) ∧
    (raw ≠ 0x00 → WorkingPeriod.ofRaw raw = .periodic raw)

/-- R61. -/
def Obligations.WorkingPeriodsAreZeroToThirty : Prop :=
  ∀ v : Int,
    (v < 0 ∨ 30 < v → workingPeriodOf v = .error .outOfRange) ∧
    (v = 0 → workingPeriodOf v = .ok .continuous) ∧
    (1 ≤ v → v ≤ 30 → ∃ n : Byte, workingPeriodOf v = .ok (.periodic n) ∧ (n.toNat : Int) = v)

/-- R84: a reading is the exact tenth of its raw value, from 0.0 to 6553.5. -/
def Obligations.ReadingIsATenthOfTheRawValue : Prop :=
  ∀ raw : Half, microgramsPerCubicMetre raw * 10 = (raw.toNat : Rat) ∧
    0 ≤ microgramsPerCubicMetre raw ∧ microgramsPerCubicMetre raw ≤ 65535 / 10

/-! The command encoder. -/

/-- R54: which command the ports offer, and the frame it leaves as, for every legal value of the
parameters; at the decided ones the sub-type is 0x02. -/
def Obligations.ReportingModeCommandLeaves : Prop :=
  Config.default.subReportingMode = 0x02 ∧
  (∀ p : PortsIn, p.cmdKind = 0 → commandOfPorts p = some (.setReportingMode
    (if p.cmdQuery = true then .query else .set) (if p.cmdMode = true then .query else .active))) ∧
  ∀ (s : State) (a : Access) (m : ReportingMode), s.cfg.Legal →
    ∃ t, exec (.setReportingMode a m) s = .next t ∧
      s.AfterCommand t fun i =>
        if i = 0 then s.cfg.subReportingMode
        else if i = 1 then (if a = .query then 0x00 else 0x01)
        else if i = 2 then (if m = .active then 0x00 else 0x01)
        else 0x00

/-- R55. -/
def Obligations.QueryCommandLeaves : Prop :=
  Config.default.subQuery = 0x04 ∧
  (∀ p : PortsIn, p.cmdKind = 1 → commandOfPorts p = some .query) ∧
  ∀ s : State, s.cfg.Legal →
    ∃ t, exec .query s = .next t ∧
      s.AfterCommand t fun i => if i = 0 then s.cfg.subQuery else 0x00

/-- R56. -/
def Obligations.DeviceIdCommandLeaves : Prop :=
  Config.default.subDeviceId = 0x05 ∧
  (∀ p : PortsIn, p.cmdKind = 2 → commandOfPorts p = some (.setDeviceId p.cmdId)) ∧
  ∀ (s : State) (id : Half), s.cfg.Legal →
    ∃ t, exec (.setDeviceId id) s = .next t ∧
      s.AfterCommand t fun i =>
        if i = 0 then s.cfg.subDeviceId
        else if i = s.cfg.cmdPayloadLen - 4 then BitVec.ofNat 8 (id.toNat / 256)
        else if i = s.cfg.cmdPayloadLen - 3 then BitVec.ofNat 8 (id.toNat % 256)
        else 0x00

/-- R57. -/
def Obligations.SleepWorkCommandLeaves : Prop :=
  Config.default.subSleepWork = 0x06 ∧
  (∀ p : PortsIn, p.cmdKind = 3 → commandOfPorts p = some (.setSleepWork
    (if p.cmdQuery = true then .query else .set) (if p.cmdMode = true then .work else .sleep))) ∧
  ∀ (s : State) (a : Access) (m : SleepWork), s.cfg.Legal →
    ∃ t, exec (.setSleepWork a m) s = .next t ∧
      s.AfterCommand t fun i =>
        if i = 0 then s.cfg.subSleepWork
        else if i = 1 then (if a = .query then 0x00 else 0x01)
        else if i = 2 then (if m = .sleep then 0x00 else 0x01)
        else 0x00

/-- R58, its admission of R53 included: a period above 30 is refused, query or set. -/
def Obligations.WorkingPeriodCommandLeaves : Prop :=
  Config.default.subWorkingPeriod = 0x08 ∧
  (∀ p : PortsIn, p.cmdKind = 4 → commandOfPorts p = some (.setWorkingPeriod
    (if p.cmdQuery = true then .query else .set) p.cmdPeriod)) ∧
  (∀ (s : State) (a : Access) (period : Byte), s.cfg.Legal → period.toNat ≤ 30 →
    ∃ t, exec (.setWorkingPeriod a period) s = .next t ∧
      s.AfterCommand t fun i =>
        if i = 0 then s.cfg.subWorkingPeriod
        else if i = 1 then (if a = .query then 0x00 else 0x01)
        else if i = 2 then period
        else 0x00) ∧
  ∀ (s : State) (a : Access) (period : Byte), 30 < period.toNat →
    ∃ t, exec (.setWorkingPeriod a period) s = .next t ∧ s.AfterRefusal t 2

/-- R59. -/
def Obligations.FirmwareCommandLeaves : Prop :=
  Config.default.subFirmware = 0x07 ∧
  (∀ p : PortsIn, p.cmdKind = 5 → commandOfPorts p = some .getFirmwareVersion) ∧
  ∀ s : State, s.cfg.Legal →
    ∃ t, exec .getFirmwareVersion s = .next t ∧
      s.AfterCommand t fun i => if i = 0 then s.cfg.subFirmware else 0x00

/-- R53, admission on the ports: kinds 6 and 7 are refused, kind 4 with a period above 30 is refused, and
every other offered command is admitted and its frame sent. -/
def Obligations.AdmissionFollowsKindAndPeriod : Prop :=
  ∀ (s : State) (p : PortsIn), s.nextInput = p → p.cmdValid = true →
    ∃ t, step s = .next t ∧
      (6 ≤ p.cmdKind.toNat → t.tx.valid = false ∧ t.tx.reject = true ∧ t.tx.rejectCause = 1 ∧
        t.tx.frame = List.replicate (s.cfg.cmdPayloadLen + 4) 0 ∧ t.sent = s.sent) ∧
      (p.cmdKind = 4 → 30 < p.cmdPeriod.toNat → t.tx.valid = false ∧ t.tx.reject = true ∧
        t.tx.rejectCause = 2 ∧ t.tx.frame = List.replicate (s.cfg.cmdPayloadLen + 4) 0 ∧
        t.sent = s.sent) ∧
      (p.cmdKind.toNat < 6 → (p.cmdKind = 4 → p.cmdPeriod.toNat ≤ 30) →
        t.tx.valid = true ∧ t.tx.reject = false ∧ t.tx.rejectCause = 0 ∧
        (∃ i, commandOfPorts p = some i ∧ t.tx.frame = encode s.cfg i) ∧
        t.sent = s.sent ++ [t.tx.frame])

/-- R52: without an offered command nothing is produced. -/
def Obligations.NoCommandProducesNothing : Prop :=
  ∀ (s : State) (p : PortsIn), s.nextInput = p → p.cmdValid = false →
    ∃ t, step s = .next t ∧ t.tx.valid = false ∧ t.tx.reject = false ∧
      t.tx.frame = List.replicate (s.cfg.cmdPayloadLen + 4) 0 ∧ t.sent = s.sent

/-- R52: a port that a variant does not use is ignored for that variant. -/
def Obligations.UnusedCommandPortsAreIgnored : Prop :=
  ∀ (p q : PortsIn) (s : State), q.cmdValid = p.cmdValid → q.cmdKind = p.cmdKind →
    (p.cmdKind = 0 ∨ p.cmdKind = 3 → q.cmdQuery = p.cmdQuery ∧ q.cmdMode = p.cmdMode) →
    (p.cmdKind = 2 → q.cmdId = p.cmdId) →
    (p.cmdKind = 4 → q.cmdQuery = p.cmdQuery ∧ q.cmdPeriod = p.cmdPeriod) →
    transmitSide q s = transmitSide p s

/-- The round trip of R60, which the spec derives from R52 to R59: the frame of a command has the frame's
markers, id, checksum and length, and its data section parses back to the command. -/
def Obligations.CommandFrameParsesBack : Prop :=
  ∀ (c : Config) (i : Instr), c.Legal → WellFormed i = true → i.format = .cmd →
    ∃ cmd, parsedOf i = some cmd ∧ parseCommand c (payloadOf c (encode c i)) = some cmd ∧
      (encode c i).length = c.cmdPayloadLen + 4 ∧ (encode c i)[0]? = some 0xAA ∧
      (encode c i)[1]? = some c.cmdId ∧
      (encode c i)[c.cmdPayloadLen + 2]? = some (checksum (payloadOf c (encode c i))) ∧
      (encode c i)[c.cmdPayloadLen + 3]? = some c.tail

/-! One step, and the frame operations in every phase. -/

/-- The step behind items c and e of R13, which the spec derives: from a legal count, the events of a step
cost ten bytes each, counted in `count` or offered in the step. -/
def Obligations.EveryEventIsPaidForWithTenBytes : Prop :=
  ∀ s t : State, s.count ≤ 9 → step s = .next t →
    ∃ es, t.events = s.events ++ es ∧
      10 * es.length + t.count ≤ s.count + offeredBytes [s.nextInput]

/-- What a frame operation does at every count and with every buffer, on a frame of any class, failing
frames among them: it completes that frame, as R66 does in the row's phase. Outside that phase this is the
model's choice (log 8); that a failing frame has a row is the model's reading (log 9). -/
def Obligations.FrameOperationsCompleteTheirFrameInEveryPhase : Prop :=
  ∀ (s : State) (f : Frame), ∃ t, exec (decodeFrame f) s = .next t ∧
    s.AfterFrame t f[9] (frameEvent s.cfg f) (portsOfEvent f (frameEvent s.cfg f))

/-- The counter is a register of `COUNT_W` bits (R4, R10): every step keeps its value within them, whatever
their number, and leaves it alone or writes at most 9. -/
def Obligations.CountStaysWithinItsWidth : Prop :=
  ∀ s t : State, s.CountFits → step s = .next t →
    t.CountFits ∧ (t.count = s.count ∨ t.count ≤ 9)
end

