-- ==== Sys2Proof/Laws/Bytes.lean ====
section
/-! SUPPORT. Splitting and assembling 16-bit values, both byte orders (R22). -/

namespace Sys2Proof

@[simp] theorem be16_hiByte_loByte (v : Half) : be16 (hiByte v) (loByte v) = v := by
  unfold be16 hiByte loByte
  ext i hi
  simp only [BitVec.getElem_or, BitVec.getElem_shiftLeft, BitVec.getElem_setWidth,
    BitVec.getLsbD_extractLsb']
  by_cases h : i < 8 <;> simp [h] <;> grind

@[simp] theorem hiByte_be16 (a b : Byte) : hiByte (be16 a b) = a := by
  unfold be16 hiByte
  ext i hi
  simp only [BitVec.getElem_extractLsb', BitVec.getLsbD_or, BitVec.getLsbD_shiftLeft,
    BitVec.getLsbD_setWidth]
  grind

@[simp] theorem loByte_be16 (a b : Byte) : loByte (be16 a b) = b := by
  unfold be16 loByte
  ext i hi
  simp only [BitVec.getElem_extractLsb', BitVec.getLsbD_or, BitVec.getLsbD_shiftLeft,
    BitVec.getLsbD_setWidth]
  grind

theorem le16_eq_be16 (a b : Byte) : le16 a b = be16 b a := BitVec.or_comm _ _

@[simp] theorem hiByte_le16 (a b : Byte) : hiByte (le16 a b) = b := by rw [le16_eq_be16, hiByte_be16]

@[simp] theorem loByte_le16 (a b : Byte) : loByte (le16 a b) = a := by rw [le16_eq_be16, loByte_be16]

@[simp] theorem le16_loByte_hiByte (v : Half) : le16 (loByte v) (hiByte v) = v := by
  rw [le16_eq_be16, be16_hiByte_loByte]

theorem be16_toNat (a b : Byte) : (be16 a b).toNat = 256 * a.toNat + b.toNat := by
  unfold be16
  rw [BitVec.or_comm, ← BitVec.add_eq_or_of_and_eq_zero]
  · simp [BitVec.toNat_add, BitVec.toNat_shiftLeft, Nat.shiftLeft_eq]
    omega
  · ext i hi
    simp
    grind

end Sys2Proof
end

