-- ==== Sys2Proof/Laws/State.lean ====
section
/-! SUPPORT. What each operation over the state does to each field: one lemma per operation and field, true
by unfolding the operation once. -/

namespace Sys2Proof.Machine

variable (s : State)

@[simp] theorem State.writeBuf_cfg (i : Fin 10) (v : Byte) : (s.writeBuf i v).cfg = s.cfg := rfl
@[simp] theorem State.writeBuf_count (i : Fin 10) (v : Byte) : (s.writeBuf i v).count = s.count := rfl
@[simp] theorem State.writeBuf_buf (i : Fin 10) (v : Byte) : (s.writeBuf i v).buf = s.buf.set i v := rfl
@[simp] theorem State.writeBuf_inputs (i : Fin 10) (v : Byte) : (s.writeBuf i v).inputs = s.inputs := rfl
@[simp] theorem State.writeBuf_evt (i : Fin 10) (v : Byte) : (s.writeBuf i v).evt = s.evt := rfl
@[simp] theorem State.writeBuf_tx (i : Fin 10) (v : Byte) : (s.writeBuf i v).tx = s.tx := rfl
@[simp] theorem State.writeBuf_events (i : Fin 10) (v : Byte) : (s.writeBuf i v).events = s.events := rfl
@[simp] theorem State.writeBuf_sent (i : Fin 10) (v : Byte) : (s.writeBuf i v).sent = s.sent := rfl

@[simp] theorem State.setCount_cfg (v : Nat) : (s.setCount v).cfg = s.cfg := rfl
@[simp] theorem State.setCount_count (v : Nat) : (s.setCount v).count = v % 2 ^ s.cfg.countWidth := rfl
@[simp] theorem State.setCount_buf (v : Nat) : (s.setCount v).buf = s.buf := rfl
@[simp] theorem State.setCount_inputs (v : Nat) : (s.setCount v).inputs = s.inputs := rfl
@[simp] theorem State.setCount_evt (v : Nat) : (s.setCount v).evt = s.evt := rfl
@[simp] theorem State.setCount_tx (v : Nat) : (s.setCount v).tx = s.tx := rfl
@[simp] theorem State.setCount_events (v : Nat) : (s.setCount v).events = s.events := rfl
@[simp] theorem State.setCount_sent (v : Nat) : (s.setCount v).sent = s.sent := rfl

@[simp] theorem State.noEvent_cfg : (s.noEvent).cfg = s.cfg := rfl
@[simp] theorem State.noEvent_count : (s.noEvent).count = s.count := rfl
@[simp] theorem State.noEvent_buf : (s.noEvent).buf = s.buf := rfl
@[simp] theorem State.noEvent_inputs : (s.noEvent).inputs = s.inputs := rfl
@[simp] theorem State.noEvent_evt : (s.noEvent).evt = EventPorts.idle := rfl
@[simp] theorem State.noEvent_tx : (s.noEvent).tx = s.tx := rfl
@[simp] theorem State.noEvent_events : (s.noEvent).events = s.events := rfl
@[simp] theorem State.noEvent_sent : (s.noEvent).sent = s.sent := rfl

@[simp] theorem State.emitResponse_cfg (r : Response) (f : Frame) : (s.emitResponse r f).cfg = s.cfg := rfl
@[simp] theorem State.emitResponse_count (r : Response) (f : Frame) :
    (s.emitResponse r f).count = s.count := rfl
@[simp] theorem State.emitResponse_buf (r : Response) (f : Frame) : (s.emitResponse r f).buf = s.buf := rfl
@[simp] theorem State.emitResponse_inputs (r : Response) (f : Frame) :
    (s.emitResponse r f).inputs = s.inputs := rfl
@[simp] theorem State.emitResponse_evt (r : Response) (f : Frame) :
    (s.emitResponse r f).evt = EventPorts.ofResponse r f := rfl
@[simp] theorem State.emitResponse_tx (r : Response) (f : Frame) : (s.emitResponse r f).tx = s.tx := rfl
@[simp] theorem State.emitResponse_events (r : Response) (f : Frame) :
    (s.emitResponse r f).events = s.events ++ [.response r] := rfl
@[simp] theorem State.emitResponse_sent (r : Response) (f : Frame) :
    (s.emitResponse r f).sent = s.sent := rfl

@[simp] theorem State.raiseError_cfg (c : Cause) : (s.raiseError c).cfg = s.cfg := rfl
@[simp] theorem State.raiseError_count (c : Cause) : (s.raiseError c).count = 0 := rfl
@[simp] theorem State.raiseError_buf (c : Cause) : (s.raiseError c).buf = s.buf := rfl
@[simp] theorem State.raiseError_inputs (c : Cause) : (s.raiseError c).inputs = s.inputs := rfl
@[simp] theorem State.raiseError_evt (c : Cause) : (s.raiseError c).evt = EventPorts.ofError c := rfl
@[simp] theorem State.raiseError_tx (c : Cause) : (s.raiseError c).tx = s.tx := rfl
@[simp] theorem State.raiseError_events (c : Cause) :
    (s.raiseError c).events = s.events ++ [.error c] := rfl
@[simp] theorem State.raiseError_sent (c : Cause) : (s.raiseError c).sent = s.sent := rfl

@[simp] theorem State.returnToIdle_cfg : (s.returnToIdle).cfg = s.cfg := rfl
@[simp] theorem State.returnToIdle_count : (s.returnToIdle).count = 0 := rfl
@[simp] theorem State.returnToIdle_buf : (s.returnToIdle).buf = s.buf := rfl
@[simp] theorem State.returnToIdle_inputs : (s.returnToIdle).inputs = s.inputs := rfl
@[simp] theorem State.returnToIdle_evt : (s.returnToIdle).evt = s.evt := rfl
@[simp] theorem State.returnToIdle_tx : (s.returnToIdle).tx = s.tx := rfl
@[simp] theorem State.returnToIdle_events : (s.returnToIdle).events = s.events := rfl
@[simp] theorem State.returnToIdle_sent : (s.returnToIdle).sent = s.sent := rfl

@[simp] theorem State.resetReceive_cfg : (s.resetReceive).cfg = s.cfg := rfl
@[simp] theorem State.resetReceive_count : (s.resetReceive).count = 0 := rfl
@[simp] theorem State.resetReceive_buf : (s.resetReceive).buf = Vector.replicate 10 0 := rfl
@[simp] theorem State.resetReceive_inputs : (s.resetReceive).inputs = s.inputs := rfl
@[simp] theorem State.resetReceive_evt : (s.resetReceive).evt = EventPorts.idle := rfl
@[simp] theorem State.resetReceive_tx : (s.resetReceive).tx = s.tx := rfl
@[simp] theorem State.resetReceive_events : (s.resetReceive).events = s.events := rfl
@[simp] theorem State.resetReceive_sent : (s.resetReceive).sent = s.sent := rfl

@[simp] theorem State.transmit_cfg (p : List Byte) : (s.transmit p).cfg = s.cfg := rfl
@[simp] theorem State.transmit_count (p : List Byte) : (s.transmit p).count = s.count := rfl
@[simp] theorem State.transmit_buf (p : List Byte) : (s.transmit p).buf = s.buf := rfl
@[simp] theorem State.transmit_inputs (p : List Byte) : (s.transmit p).inputs = s.inputs := rfl
@[simp] theorem State.transmit_evt (p : List Byte) : (s.transmit p).evt = s.evt := rfl
@[simp] theorem State.transmit_tx (p : List Byte) :
    (s.transmit p).tx = TxPorts.ofFrame (commandFrame s.cfg p) := rfl
@[simp] theorem State.transmit_events (p : List Byte) : (s.transmit p).events = s.events := rfl
@[simp] theorem State.transmit_sent (p : List Byte) :
    (s.transmit p).sent = s.sent ++ [commandFrame s.cfg p] := rfl

@[simp] theorem State.rejectCommand_cfg (c : RejectCause) : (s.rejectCommand c).cfg = s.cfg := rfl
@[simp] theorem State.rejectCommand_count (c : RejectCause) : (s.rejectCommand c).count = s.count := rfl
@[simp] theorem State.rejectCommand_buf (c : RejectCause) : (s.rejectCommand c).buf = s.buf := rfl
@[simp] theorem State.rejectCommand_inputs (c : RejectCause) : (s.rejectCommand c).inputs = s.inputs := rfl
@[simp] theorem State.rejectCommand_evt (c : RejectCause) : (s.rejectCommand c).evt = s.evt := rfl
@[simp] theorem State.rejectCommand_tx (c : RejectCause) :
    (s.rejectCommand c).tx = TxPorts.ofReject s.cfg c := rfl
@[simp] theorem State.rejectCommand_events (c : RejectCause) : (s.rejectCommand c).events = s.events := rfl
@[simp] theorem State.rejectCommand_sent (c : RejectCause) : (s.rejectCommand c).sent = s.sent := rfl

@[simp] theorem State.noCommand_cfg : (s.noCommand).cfg = s.cfg := rfl
@[simp] theorem State.noCommand_count : (s.noCommand).count = s.count := rfl
@[simp] theorem State.noCommand_buf : (s.noCommand).buf = s.buf := rfl
@[simp] theorem State.noCommand_inputs : (s.noCommand).inputs = s.inputs := rfl
@[simp] theorem State.noCommand_evt : (s.noCommand).evt = s.evt := rfl
@[simp] theorem State.noCommand_tx : (s.noCommand).tx = TxPorts.idle s.cfg := rfl
@[simp] theorem State.noCommand_events : (s.noCommand).events = s.events := rfl
@[simp] theorem State.noCommand_sent : (s.noCommand).sent = s.sent := rfl

@[simp] theorem State.advance_cfg : (s.advance).cfg = s.cfg := rfl
@[simp] theorem State.advance_count : (s.advance).count = s.count := rfl
@[simp] theorem State.advance_buf : (s.advance).buf = s.buf := rfl
@[simp] theorem State.advance_inputs : (s.advance).inputs = s.inputs.tail := rfl
@[simp] theorem State.advance_evt : (s.advance).evt = s.evt := rfl
@[simp] theorem State.advance_tx : (s.advance).tx = s.tx := rfl
@[simp] theorem State.advance_events : (s.advance).events = s.events := rfl
@[simp] theorem State.advance_sent : (s.advance).sent = s.sent := rfl

@[simp] theorem State.startFrame_cfg (b : Byte) : (s.startFrame b).cfg = s.cfg := rfl
@[simp] theorem State.startFrame_count (b : Byte) : (s.startFrame b).count = 1 % 2 ^ s.cfg.countWidth := rfl
@[simp] theorem State.startFrame_buf (b : Byte) : (s.startFrame b).buf = s.buf.set 0 b := rfl
@[simp] theorem State.startFrame_inputs (b : Byte) : (s.startFrame b).inputs = s.inputs := rfl
@[simp] theorem State.startFrame_evt (b : Byte) : (s.startFrame b).evt = EventPorts.idle := rfl
@[simp] theorem State.startFrame_tx (b : Byte) : (s.startFrame b).tx = s.tx := rfl
@[simp] theorem State.startFrame_events (b : Byte) : (s.startFrame b).events = s.events := rfl
@[simp] theorem State.startFrame_sent (b : Byte) : (s.startFrame b).sent = s.sent := rfl

/-- A counter of legal width loses no value that a rule writes (R10). -/
theorem Config.LegalCount.mod_eq {c : Config} (h : c.LegalCount) {v : Nat} (hv : v ≤ 9) :
    v % 2 ^ c.countWidth = v := by
  have := Nat.pow_le_pow_right (n := 2) (by omega) h
  exact Nat.mod_eq_of_lt (by omega)

/-- R6, at a legal width. -/
theorem State.setCount_count_eq (h : s.cfg.LegalCount) {v : Nat} (hv : v ≤ 9) :
    (s.setCount v).count = v := Config.LegalCount.mod_eq h hv


variable (b : Byte) (h : s.count ≤ 8)

@[simp] theorem State.appendByte_cfg : (s.appendByte b h).cfg = s.cfg := rfl
@[simp] theorem State.appendByte_count :
    (s.appendByte b h).count = (s.count + 1) % 2 ^ s.cfg.countWidth := rfl
@[simp] theorem State.appendByte_buf : (s.appendByte b h).buf = s.buf.set s.count b (by omega) := rfl
@[simp] theorem State.appendByte_inputs : (s.appendByte b h).inputs = s.inputs := rfl
@[simp] theorem State.appendByte_evt : (s.appendByte b h).evt = EventPorts.idle := rfl
@[simp] theorem State.appendByte_tx : (s.appendByte b h).tx = s.tx := rfl
@[simp] theorem State.appendByte_events : (s.appendByte b h).events = s.events := rfl
@[simp] theorem State.appendByte_sent : (s.appendByte b h).sent = s.sent := rfl

end Sys2Proof.Machine
end

