-- ==== Sys2Proof/Laws/Ops.lean ====
section
/-! SUPPORT. What each shared operation can do, said once: completing a frame, accepting a byte, the two
sides of a step. -/

namespace Sys2Proof.Machine

/-! Completing a frame (R66, R89). -/

variable (s : State) (f : Frame) (c : Except Cause Response)

/-- Either a response is emitted and the accumulator returns to Idle, or an error is raised. -/
theorem State.completeFrame_cases :
    (∃ r, afterChecks s.cfg f c = .ok r ∧
      s.completeFrame f c = ((s.writeBuf 9 f[9]).emitResponse r f).returnToIdle) ∨
    (∃ cause, afterChecks s.cfg f c = .error cause ∧
      s.completeFrame f c = (s.writeBuf 9 f[9]).raiseError cause) := by
  unfold State.completeFrame
  split
  · exact .inl ⟨_, ‹_›, rfl⟩
  · exact .inr ⟨_, ‹_›, rfl⟩

@[simp] theorem State.completeFrame_cfg : (s.completeFrame f c).cfg = s.cfg := by
  obtain ⟨r, -, h⟩ | ⟨r, -, h⟩ := s.completeFrame_cases f c <;> simp [h]

@[simp] theorem State.completeFrame_count : (s.completeFrame f c).count = 0 := by
  obtain ⟨r, -, h⟩ | ⟨r, -, h⟩ := s.completeFrame_cases f c <;> simp [h]

@[simp] theorem State.completeFrame_buf : (s.completeFrame f c).buf = s.buf.set 9 f[9] := by
  obtain ⟨r, -, h⟩ | ⟨r, -, h⟩ := s.completeFrame_cases f c <;> simp [h]

@[simp] theorem State.completeFrame_inputs : (s.completeFrame f c).inputs = s.inputs := by
  obtain ⟨r, -, h⟩ | ⟨r, -, h⟩ := s.completeFrame_cases f c <;> simp [h]

@[simp] theorem State.completeFrame_tx : (s.completeFrame f c).tx = s.tx := by
  obtain ⟨r, -, h⟩ | ⟨r, -, h⟩ := s.completeFrame_cases f c <;> simp [h]

@[simp] theorem State.completeFrame_sent : (s.completeFrame f c).sent = s.sent := by
  obtain ⟨r, -, h⟩ | ⟨r, -, h⟩ := s.completeFrame_cases f c <;> simp [h]

@[simp] theorem State.completeFrame_events :
    (s.completeFrame f c).events = s.events ++ [eventOf (afterChecks s.cfg f c)] := by
  obtain ⟨r, e, h⟩ | ⟨r, e, h⟩ := s.completeFrame_cases f c <;> simp [h, e, eventOf]

@[simp] theorem State.completeFrame_evt :
    (s.completeFrame f c).evt = portsOfEvent f (eventOf (afterChecks s.cfg f c)) := by
  obtain ⟨r, e, h⟩ | ⟨r, e, h⟩ := s.completeFrame_cases f c <;> simp [h, e, eventOf, portsOfEvent]

/-- The checks never give `FrameTooLong` (R87, R88). -/
theorem afterChecks_ne_frameTooLong (cfg : Config) (h : c ≠ .error .frameTooLong) :
    afterChecks cfg f c ≠ .error .frameTooLong := by
  unfold afterChecks frameCheck
  split_ifs <;> simp_all

/-- The classification never gives `FrameTooLong` (R75). -/
theorem classify_ne_frameTooLong : classify f ≠ .error .frameTooLong := by
  unfold classify
  split_ifs <;> simp

/-! Accepting a byte (R63 to R67). -/

/-- The accumulator's step on a byte is one of the rules' arms, each under its condition. -/
theorem State.acceptByte_cases (b : Byte) :
    (s.count = 0 ∧ b = headMarker ∧ s.acceptByte b = s.startFrame b) ∨
    (s.count = 0 ∧ b ≠ headMarker ∧ s.acceptByte b = s.noEvent) ∨
    (s.count ≠ 0 ∧ ∃ h : s.count ≤ 8, s.acceptByte b = s.appendByte b h) ∨
    (s.count = 9 ∧ s.acceptByte b = s.completeFrame (s.frameWith b) (classify (s.frameWith b))) ∨
    (10 ≤ s.count ∧ s.acceptByte b = s.overflowByte b) := by
  unfold State.acceptByte
  split_ifs with h0 hb h8 h9
  · exact .inl ⟨h0, hb, rfl⟩
  · exact .inr (.inl ⟨h0, hb, rfl⟩)
  · exact .inr (.inr (.inl ⟨h0, h8, rfl⟩))
  · exact .inr (.inr (.inr (.inl ⟨h9, rfl⟩)))
  · refine .inr (.inr (.inr (.inr ⟨?_, rfl⟩)))
    omega

/-- R63 as an equation. -/
theorem State.acceptByte_header (h : s.count = 0) : s.acceptByte headMarker = s.startFrame headMarker := by
  simp [State.acceptByte, h]

/-- R64 as an equation. -/
theorem State.acceptByte_noise (b : Byte) (h : s.count = 0) (hb : b ≠ headMarker) :
    s.acceptByte b = s.noEvent := by
  simp [State.acceptByte, h, hb]

/-- R65 as an equation. -/
theorem State.acceptByte_append (b : Byte) (h1 : 1 ≤ s.count) (h8 : s.count ≤ 8) :
    s.acceptByte b = s.appendByte b h8 := by
  have h0 : s.count ≠ 0 := by omega
  rw [State.acceptByte, if_neg h0, dif_pos h8]

/-- R66 as an equation. -/
theorem State.acceptByte_tenth (b : Byte) (h : s.count = 9) :
    s.acceptByte b = s.completeFrame (s.frameWith b) (classify (s.frameWith b)) := by
  simp [State.acceptByte, h]

/-- R67 as an equation. -/
theorem State.acceptByte_overflow (b : Byte) (h : 10 ≤ s.count) :
    s.acceptByte b = s.overflowByte b := by
  obtain ⟨h0, -⟩ | ⟨h0, -⟩ | ⟨-, h8, -⟩ | ⟨h9, -⟩ | ⟨-, e⟩ := s.acceptByte_cases b
  · simp [h0] at h
  · simp [h0] at h
  · omega
  · simp [h9] at h
  · exact e

/-- The overflow arm, by the byte (R67). -/
theorem State.overflowByte_cases (b : Byte) :
    (b = headMarker ∧
      s.overflowByte b = ((s.raiseError .frameTooLong).writeBuf 0 b).setCount 1) ∨
    (b ≠ headMarker ∧ s.overflowByte b = s.raiseError .frameTooLong) := by
  unfold State.overflowByte
  split_ifs with h
  · exact .inl ⟨h, rfl⟩
  · exact .inr ⟨h, rfl⟩

/-! Frames: what a receive-side operation and a transmit-side operation leave alone (R26). -/

theorem State.completeFrame_keepsTransmit : s.KeepsTransmit (s.completeFrame f c) := by
  simp [State.KeepsTransmit]

theorem State.acceptByte_keepsTransmit (b : Byte) : s.KeepsTransmit (s.acceptByte b) := by
  obtain ⟨-, -, h⟩ | ⟨-, -, h⟩ | ⟨-, h8, h⟩ | ⟨-, h⟩ | ⟨-, h⟩ := s.acceptByte_cases b
  · simp [h, State.KeepsTransmit]
  · simp [h, State.KeepsTransmit]
  · simp [h, State.appendByte, State.KeepsTransmit]
  · rw [h]
    exact s.completeFrame_keepsTransmit _ _
  · obtain ⟨-, h'⟩ | ⟨-, h'⟩ := s.overflowByte_cases b <;> simp [h, h', State.KeepsTransmit]

theorem State.transmit_keepsReceive (p : List Byte) : s.KeepsReceive (s.transmit p) :=
  ⟨rfl, rfl, rfl, fun _ => rfl, rfl, rfl⟩

theorem State.rejectCommand_keepsReceive (cause : RejectCause) :
    s.KeepsReceive (s.rejectCommand cause) := ⟨rfl, rfl, rfl, fun _ => rfl, rfl, rfl⟩

/-! Outcomes and the two sides. -/

@[simp] theorem andThen_next (k : State → Host.Outcome State Fault Refusal) :
    andThen (.next s) k = k s := rfl

/-- A frame is the layout of R29 with its own bytes. -/
theorem responseFrame_of_frame :
    responseFrame (envelopeOf f) f[1] f[2] f[3] f[4] f[5] (deviceOf f) = f := by
  simp only [responseFrame, envelopeOf, deviceOf, hiByte_be16, loByte_be16]
  ext i hi
  interval_cases i <;> rfl

/-- An operation on a complete frame is the completion of that frame with its classification: the two
readings of R38's table, the decoder's and the dispatch of R75, agree. -/
theorem exec_decodeFrame : exec (decodeFrame f) s = .next (s.completeFrame f (classify f)) := by
  have e := responseFrame_of_frame f
  unfold decodeFrame classify
  split_ifs with h1 h2 h3 h4 h5 h6 <;>
    simp_all [exec, execQueryResponse, execSetReportingModeResponse, execSetDeviceIdResponse,
      execSetSleepWorkResponse, execSetWorkingPeriodResponse, execGetFirmwareVersionResponse,
      execUnknownCommand, deviceOf]

/-- The operation a byte row stands for is the accumulator's step on that byte. -/
theorem exec_decodeByte (b : Byte) : exec (decodeByte b) s = .next (s.acceptByte b) := by
  unfold decodeByte
  split_ifs with h
  · simp [exec, execHead, h]
  · rfl

end Sys2Proof.Machine
end

