-- ==== Sys2Proof/Laws/PerInstr.lean ====
section
/-! SUPPORT. One statement per operation as syntax: the length of its encoding (R29, R39). -/

namespace Sys2Proof.Laws

/-- The number of bytes of a unit of a format (30_encoding.md, opening; R29, R39). -/
def unitLength (c : Config) : Format → Nat
  | .byte8 => 1
  | .rsp10 => 10
  | .cmd => c.cmdFrameLen

/-- A legal command's data section fills the payload before and after its bytes are set. -/
@[simp] theorem blankPayload_length (c : Config) (h : c.Legal) :
    (blankPayload c).length = c.cmdPayloadLen := by
  have := h.1
  simp [blankPayload]
  omega

/-- A command frame is four bytes longer than its data section (R39). -/
@[simp] theorem commandFrame_length (c : Config) (p : List Byte) :
    (commandFrame c p).length = p.length + 4 := by
  simp [commandFrame]

/-- The encoding of an operation has the length of its format, for every legal `L`. -/
def EncodedLength.Statement (i : Instr) : Prop :=
  ∀ c : Config, c.Legal → (encode c i).length = unitLength c i.format

theorem EncodedLength.head : EncodedLength.Statement .head := fun _ _ => rfl

theorem EncodedLength.noise (b : Byte) : EncodedLength.Statement (.noise b) := fun _ _ => rfl

theorem EncodedLength.queryResponse (pm25 pm10 device : Half) (env : Envelope) :
    EncodedLength.Statement (.queryResponse pm25 pm10 device env) := fun _ _ => rfl

theorem EncodedLength.setReportingModeResponse (flag mode unused : Byte) (device : Half)
    (env : Envelope) :
    EncodedLength.Statement (.setReportingModeResponse flag mode unused device env) := fun _ _ => rfl

theorem EncodedLength.setDeviceIdResponse (u3 u4 u5 : Byte) (device : Half) (env : Envelope) :
    EncodedLength.Statement (.setDeviceIdResponse u3 u4 u5 device env) := fun _ _ => rfl

theorem EncodedLength.setSleepWorkResponse (flag mode unused : Byte) (device : Half)
    (env : Envelope) :
    EncodedLength.Statement (.setSleepWorkResponse flag mode unused device env) := fun _ _ => rfl

theorem EncodedLength.setWorkingPeriodResponse (flag period unused : Byte) (device : Half)
    (env : Envelope) :
    EncodedLength.Statement (.setWorkingPeriodResponse flag period unused device env) := fun _ _ => rfl

theorem EncodedLength.getFirmwareVersionResponse (year month day : Byte) (device : Half)
    (env : Envelope) :
    EncodedLength.Statement (.getFirmwareVersionResponse year month day device env) := fun _ _ => rfl

theorem EncodedLength.unknownCommand (id sub d1 d2 d3 : Byte) (device : Half) (env : Envelope) :
    EncodedLength.Statement (.unknownCommand id sub d1 d2 d3 device env) := fun _ _ => rfl

theorem EncodedLength.setReportingMode (access : Access) (mode : ReportingMode) :
    EncodedLength.Statement (.setReportingMode access mode) := fun c h => by
  simp [encode, reportingModePayload, flagValuePayload, blankPayload_length c h, unitLength,
    Instr.format, Config.cmdFrameLen]

theorem EncodedLength.query : EncodedLength.Statement .query := fun c h => by
  simp [encode, queryPayload, barePayload, blankPayload_length c h, unitLength, Instr.format,
    Config.cmdFrameLen]

theorem EncodedLength.setDeviceId (id : Half) : EncodedLength.Statement (.setDeviceId id) :=
  fun c h => by
    simp [encode, deviceIdPayload, barePayload, blankPayload_length c h, unitLength, Instr.format,
      Config.cmdFrameLen]

theorem EncodedLength.setSleepWork (access : Access) (mode : SleepWork) :
    EncodedLength.Statement (.setSleepWork access mode) := fun c h => by
  simp [encode, sleepWorkPayload, flagValuePayload, blankPayload_length c h, unitLength,
    Instr.format, Config.cmdFrameLen]

theorem EncodedLength.setWorkingPeriod (access : Access) (period : Byte) :
    EncodedLength.Statement (.setWorkingPeriod access period) := fun c h => by
  simp [encode, workingPeriodPayload, flagValuePayload, blankPayload_length c h, unitLength,
    Instr.format, Config.cmdFrameLen]

theorem EncodedLength.getFirmwareVersion : EncodedLength.Statement .getFirmwareVersion :=
  fun c h => by
    simp [encode, firmwarePayload, barePayload, blankPayload_length c h, unitLength, Instr.format,
      Config.cmdFrameLen]

end Sys2Proof.Laws
end

