-- ==== Sys2Proof/Laws/Step.lean ====
section
/-! SUPPORT. What each side of a step can do, and the step as the two together. -/

namespace Sys2Proof.Machine

variable (p : PortsIn) (s : State)

/-- The receive side is R99, R62 and the accumulator's step on the byte, in that order. -/
theorem receiveSide_eq :
    receiveSide p s = .next (if p.rst then s.resetReceive
      else if !p.rxValid then s.noEvent else s.acceptByte p.rxData) := by
  unfold receiveSide State.fetch
  split_ifs with h1 h2 h3 h4
  · rfl
  · rfl
  · exact exec_decodeByte s _
  · simp [exec_decodeFrame, State.acceptByte, h4]
  · rfl

/-- The receive side at the tenth byte completes the nine stored bytes and this one (R66). -/
theorem receiveSide_tenth (h : s.count = 9) (hr : p.rst = false) (hv : p.rxValid = true) :
    receiveSide p s =
      .next (s.completeFrame (s.frameWith p.rxData) (classify (s.frameWith p.rxData))) := by
  simp [receiveSide_eq, hr, hv, s.acceptByte_tenth p.rxData h]

/-- The transmit side offers nothing, refuses, or sends one data section. -/
theorem transmitSide_cases :
    (p.cmdValid = false ∧ transmitSide p s = .next s.noCommand) ∨
    (p.cmdValid = true ∧ 6 ≤ p.cmdKind.toNat ∧
      transmitSide p s = .next (s.rejectCommand .unknownKind)) ∨
    (p.cmdValid = true ∧ p.cmdKind = 4 ∧ periodMax < p.cmdPeriod.toNat ∧
      transmitSide p s = .next (s.rejectCommand .periodRange)) ∨
    (p.cmdValid = true ∧ p.cmdKind.toNat < 6 ∧ (p.cmdKind = 4 → p.cmdPeriod.toNat ≤ periodMax) ∧
      ∃ payload, transmitSide p s = .next (s.transmit payload)) := by
  unfold transmitSide
  cases hv : p.cmdValid
  · exact .inl ⟨rfl, rfl⟩
  · right
    unfold commandOfPorts
    have kinds : ∀ k : BitVec 3, k = 0 ∨ k = 1 ∨ k = 2 ∨ k = 3 ∨ k = 4 ∨ k = 5 ∨ 6 ≤ k.toNat := by
      decide
    rcases kinds p.cmdKind with h | h | h | h | h | h | h
    · exact .inr (.inr ⟨rfl, by simp [h], by simp [h], _, by rw [h]; rfl⟩)
    · exact .inr (.inr ⟨rfl, by simp [h], by simp [h], _, by rw [h]; rfl⟩)
    · exact .inr (.inr ⟨rfl, by simp [h], by simp [h], _, by rw [h]; rfl⟩)
    · exact .inr (.inr ⟨rfl, by simp [h], by simp [h], _, by rw [h]; rfl⟩)
    · by_cases hp : periodMax < p.cmdPeriod.toNat
      · exact .inr (.inl ⟨rfl, h, hp, by simp [h, exec, execSetWorkingPeriod, periodRefused, hp]⟩)
      · exact .inr (.inr ⟨rfl, by simp [h], fun _ => by omega, _, by
          simp [h, exec, execSetWorkingPeriod, periodRefused, hp]; rfl⟩)
    · exact .inr (.inr ⟨rfl, by simp [h], by simp [h], _, by rw [h]; rfl⟩)
    · refine .inl ⟨rfl, h, ?_⟩
      have n : ∀ k : BitVec 3, 6 ≤ k.toNat → k ≠ 0 ∧ k ≠ 1 ∧ k ≠ 2 ∧ k ≠ 3 ∧ k ≠ 4 ∧ k ≠ 5 := by
        decide
      obtain ⟨n0, n1, n2, n3, n4, n5⟩ := n _ h
      rw [if_neg n0, if_neg n1, if_neg n2, if_neg n3, if_neg n4, if_neg n5]
      rfl

/-- What every outcome of the transmit side leaves alone. -/
theorem transmitSide_frame :
    ∃ u, transmitSide p s = .next u ∧ s.KeepsReceive u ∧ u.buf = s.buf := by
  obtain ⟨-, h⟩ | ⟨-, -, h⟩ | ⟨-, -, -, h⟩ | ⟨-, -, -, _, h⟩ := transmitSide_cases p s <;>
    exact ⟨_, h, ⟨rfl, rfl, rfl, fun _ => rfl, rfl, rfl⟩, rfl⟩

/-- A step takes one record of inputs and ends in the receive side's state over the transmit side's. -/
theorem step_eq :
    ∃ u, transmitSide s.nextInput s.advance = .next u ∧ u.cfg = s.cfg ∧ u.inputs = s.inputs.tail ∧
      u.count = s.count ∧ u.buf = s.buf ∧ u.evt = s.evt ∧ u.events = s.events ∧
      step s = .next (if s.nextInput.rst then u.resetReceive
        else if !s.nextInput.rxValid then u.noEvent else u.acceptByte s.nextInput.rxData) := by
  obtain ⟨u, h, ⟨hc, hi, hn, -, he, hs⟩, hb⟩ := transmitSide_frame s.nextInput s.advance
  exact ⟨u, h, hc, hi, hn, hb, he, hs, by rw [step, bothSides, h, andThen_next, receiveSide_eq]⟩

end Sys2Proof.Machine
end

