-- ==== Sys2Proof/Tests/Slice0.lean ====
section
/-! SUPPORT. Tests: ill-formed operations, decoding of words written out from spec/, single steps whose
expected results are those of spec/95_test_vectors.md, and a witness for every statement with hypotheses. -/

namespace Sys2Proof.Tests

open Sys2Proof.Machine

/-! Helpers. -/

/-- The next state of an outcome. -/
def nextOf (o : Host.Outcome State Fault Refusal) : Option State :=
  match o with
  | .next s => some s
  | .fault _ => none
  | .refused _ => none

/-- The reset state with a counter, a buffer and one record of inputs waiting. -/
def at' (count : Nat) (buf : Frame) (p : PortsIn) : State :=
  { State.reset with count := count, buf := buf, inputs := [p] }

/-- Ten bytes 0x11, the stale buffer of V-A. -/
def elevens : Frame := Vector.replicate 10 0x11

/-- Configurations at the edges of R4: the tail enforced, `L` at its least and at its greatest. -/
def tailOn : Config := { Config.default with tailCheck := true }
def shortest : Config := { Config.default with cmdPayloadLen := 5 }
def longest : Config := { Config.default with cmdPayloadLen := 255 }
/-- `COUNT_W` above its least: a counter of five bits. -/
def wider : Config := { Config.default with countWidth := 5 }
/-- `L = 6`, the 10-byte command frames of V-E2. -/
def ten : Config := { Config.default with cmdPayloadLen := 6 }

/-- The frame of S1, and the QueryResponse of S3. -/
def frameS1 : Frame := #v[0xAA, 0xC5, 0x08, 0x00, 0x05, 0x00, 0xA1, 0x60, 0x0E, 0xAB]
def frameS3 : Frame := #v[0xAA, 0xC0, 0x34, 0x00, 0x50, 0x00, 0xA1, 0x60, 0x85, 0xAB]

/-- A complete frame met while nine bytes are stored: its first nine, and its tenth as the byte offered. -/
def completing (f : Frame) : State := at' 9 (f.set 9 0) (PortsIn.byte f[9])

/-- The hypotheses of a frame's row in its phase: nine bytes counted, and stored as `f[0]` to `f[8]`. -/
abbrev InPhase (s : State) (f : Frame) : Prop :=
  s.count = 9 ∧ ∀ i : Fin 10, i ≠ 9 → s.buf[i] = f[i]

/-- `completing` with the tail enforced. -/
def completingChecked (f : Frame) : State := { completing f with cfg := tailOn }

/-- What one step shows: `count`, the event ports, the events. -/
def shown (s : State) : Option (Nat × EventPorts × List Event) :=
  (nextOf (step s)).map fun t => (t.count, t.evt, t.events)

/-- What an operation sends from the reset state under a configuration. -/
def sentBy (c : Config) (i : Instr) : Option (List (List Byte)) :=
  (nextOf (exec i { State.reset with cfg := c })).map fun t => t.sent

/-! Ill-formed operations are refused, and the nearest well-formed ones are not. -/

theorem test_wellformed_noise : WellFormed (.noise 0xAA) = false ∧ WellFormed (.noise 0xAB) = true := by
  decide

theorem test_wellformed_unknown_command :
    WellFormed (.unknownCommand 0xC0 0x99 0 0 0 0 ⟨0xAA, 0, 0xAB⟩) = false ∧
    WellFormed (.unknownCommand 0xC5 0x02 0 0 0 0 ⟨0xAA, 0, 0xAB⟩) = false ∧
    WellFormed (.unknownCommand 0xC5 0x05 0 0 0 0 ⟨0xAA, 0, 0xAB⟩) = false ∧
    WellFormed (.unknownCommand 0xC5 0x06 0 0 0 0 ⟨0xAA, 0, 0xAB⟩) = false ∧
    WellFormed (.unknownCommand 0xC5 0x08 0 0 0 0 ⟨0xAA, 0, 0xAB⟩) = false ∧
    WellFormed (.unknownCommand 0xC5 0x07 0 0 0 0 ⟨0xAA, 0, 0xAB⟩) = false ∧
    WellFormed (.unknownCommand 0xC5 0x04 0 0 0 0 ⟨0xAA, 0, 0xAB⟩) = true ∧
    WellFormed (.unknownCommand 0xB4 0x02 0 0 0 0 ⟨0xAA, 0, 0xAB⟩) = true := by decide

theorem test_wellformed_working_period :
    WellFormed (.setWorkingPeriod .set 31) = false ∧ WellFormed (.setWorkingPeriod .query 31) = false ∧
    WellFormed (.setWorkingPeriod .set 30) = true := by decide

/-! Decoding: words written out from 30_encoding.md, whose bytes stand in 95_test_vectors.md. -/

theorem test_decode_head : decodeTableWord 8 0xAA = some .head := by decide

theorem test_decode_noise :
    decodeTableWord 8 0x00 = some (.noise 0x00) ∧ decodeTableWord 8 0xA9 = some (.noise 0xA9) := by decide

/-- V-D1: little-endian readings. -/
theorem test_decode_query_response :
    decodeTableWord 80 0xAAC002010500A16009AB =
      some (.queryResponse 258 5 0xA160 ⟨0xAA, 0x09, 0xAB⟩) := by decide

theorem test_decode_set_reporting_mode_response :
    decodeTableWord 80 0xAAC502000100A16004AB =
      some (.setReportingModeResponse 0x00 0x01 0x00 0xA160 ⟨0xAA, 0x04, 0xAB⟩) := by decide

/-- V-D1: big-endian device id. -/
theorem test_decode_set_device_id_response :
    decodeTableWord 80 0xAAC50500000012344BAB =
      some (.setDeviceIdResponse 0 0 0 0x1234 ⟨0xAA, 0x4B, 0xAB⟩) := by decide

theorem test_decode_set_sleep_work_response :
    decodeTableWord 80 0xAAC506010000A16008AB =
      some (.setSleepWorkResponse 0x01 0x00 0x00 0xA160 ⟨0xAA, 0x08, 0xAB⟩) := by decide

theorem test_decode_set_working_period_response :
    decodeTableWord 80 0xAAC508000500A1600EAB =
      some (.setWorkingPeriodResponse 0x00 0x05 0x00 0xA160 ⟨0xAA, 0x0E, 0xAB⟩) := by decide

theorem test_decode_get_firmware_version_response :
    decodeTableWord 80 0xAAC507120B10A16035AB =
      some (.getFirmwareVersionResponse 18 11 16 0xA160 ⟨0xAA, 0x35, 0xAB⟩) := by decide

theorem test_decode_unknown_command :
    decodeTableWord 80 0xAAC504000000A16005AB =
      some (.unknownCommand 0xC5 0x04 0 0 0 0xA160 ⟨0xAA, 0x05, 0xAB⟩) := by decide

theorem test_decode_set_reporting_mode :
    decodeTableWord 152 0xAAB402000100000000000000000000FFFF01AB =
      some (.setReportingMode .query .query) := by decide

theorem test_decode_query :
    decodeTableWord 152 0xAAB404000000000000000000000000FFFF02AB = some .query := by decide

theorem test_decode_set_device_id :
    decodeTableWord 152 0xAAB40500000000000000000000A001FFFFA4AB = some (.setDeviceId 0xA001) := by decide

theorem test_decode_set_sleep_work :
    decodeTableWord 152 0xAAB406010000000000000000000000FFFF05AB =
      some (.setSleepWork .set .sleep) := by decide

/-- The greatest period, and one above it, which no row has. -/
theorem test_decode_set_working_period :
    decodeTableWord 152 0xAAB408011E00000000000000000000FFFF25AB =
      some (.setWorkingPeriod .set 30) ∧
    decodeTableWord 152 0xAAB408011F00000000000000000000FFFF26AB = none := by decide

theorem test_decode_get_firmware_version :
    decodeTableWord 152 0xAAB407000000000000000000000000FFFF05AB = some .getFirmwareVersion := by decide

/-- Command frames that are no row: a wrong id, marker, target, reserved byte, sub-type, flag, mode, and
a wrong length, at `L = 6`. -/
theorem test_decode_rejects :
    decode ten .cmd [0xAA, 0xB5, 0x04, 0, 0, 0, 0xFF, 0xFF, 0x02, 0xAB] = .error .badCommandId ∧
    decode ten .cmd [0xAB, 0xB4, 0x04, 0, 0, 0, 0xFF, 0xFF, 0x02, 0xAB] = .error .badHeader ∧
    decode ten .cmd [0xAA, 0xB4, 0x04, 0, 0, 0, 0xFF, 0xFF, 0x02, 0xAA] = .error .badTailMarker ∧
    decode ten .cmd [0xAA, 0xB4, 0x04, 0, 0, 0, 0xFF, 0xFE, 0x02, 0xAB] = .error .badTarget ∧
    decode ten .cmd [0xAA, 0xB4, 0x04, 0, 0, 1, 0xFF, 0xFF, 0x03, 0xAB] = .error .reservedNotZero ∧
    decode ten .cmd [0xAA, 0xB4, 0x03, 0, 0, 0, 0xFF, 0xFF, 0x01, 0xAB] = .error .unknownSubType ∧
    decode ten .cmd [0xAA, 0xB4, 0x02, 2, 0, 0, 0xFF, 0xFF, 0x02, 0xAB] = .error .badFlag ∧
    decode ten .cmd [0xAA, 0xB4, 0x02, 0, 2, 0, 0xFF, 0xFF, 0x02, 0xAB] = .error .badMode ∧
    decode ten .cmd [0xAA, 0xB4, 0x04] = .error .wrongLength ∧
    decode ten .rsp10 [0xAA] = .error .wrongLength ∧ decode ten .byte8 [] = .error .wrongLength := by decide

/-! One step: V-A. -/

/-- R63 with a stale buffer, and R68: `HEAD` in mid-frame is data. -/
theorem test_step_head :
    (nextOf (step (at' 0 frameS3 (PortsIn.byte 0xAA)))).map (fun t => (t.count, t.buf)) =
      some (1, frameS3) ∧
    (nextOf (step (at' 1 (frameS3.set 1 0) (PortsIn.byte 0xAA)))).map (fun t => (t.count, t.buf)) =
      some (2, frameS3.set 1 0xAA) := by decide

/-- R64: `TAIL` while Idle, and one below `HEAD`. -/
theorem test_step_noise :
    (nextOf (step (at' 0 elevens (PortsIn.byte 0xAB)))).map (fun t => (t.count, t.buf)) =
      some (0, elevens) ∧
    shown (at' 0 elevens (PortsIn.byte 0xA9)) = some (0, EventPorts.idle, []) := by decide

/-- R67: 10, 12 and 15 bytes counted. -/
theorem test_step_overflow :
    (nextOf (step (at' 10 elevens (PortsIn.byte 0x37)))).map (fun t => (t.count, t.buf, t.events)) =
      some (0, elevens, [.error .frameTooLong]) ∧
    (nextOf (step (at' 12 elevens (PortsIn.byte 0xAA)))).map (fun t => (t.count, t.buf, t.events)) =
      some (1, elevens.set 0 0xAA, [.error .frameTooLong]) ∧
    (nextOf (step (at' 15 elevens (PortsIn.byte 0x00)))).map (fun t => (t.count, t.buf, t.events)) =
      some (0, elevens, [.error .frameTooLong]) := by decide

/-- R99: reset beats completion. -/
theorem test_step_reset :
    (nextOf (step (at' 9 (frameS1.set 9 0) { PortsIn.byte 0xAB with rst := true }))).map
      (fun t => (t.count, t.buf, t.events)) = some (0, Vector.replicate 10 0, []) := by decide

/-! One step: V-D1 to V-D3. -/

theorem test_step_query_response :
    shown (completing frameS3) =
      some (0, ⟨true, false, 0, 0x34, 0x00, 0x50, 0x00, 0xA160⟩, [.response (.query 52 80 0xA160)]) := by
  decide

/-- V-D2: a reserved mode is passed through, and offset 5 ignored. -/
theorem test_step_set_reporting_mode_response :
    shown (completing #v[0xAA, 0xC5, 0x02, 0x02, 0x07, 0x09, 0xA1, 0x60, 0x15, 0xAB]) =
      some (0, ⟨true, false, 1, 0x02, 0x02, 0x07, 0x09, 0xA160⟩,
        [.response (.setReportingMode 0x02 0x07 0xA160)]) := by decide

theorem test_step_set_device_id_response :
    shown (completing #v[0xAA, 0xC5, 0x05, 0x09, 0x09, 0x09, 0xFF, 0xFF, 0x1E, 0xAB]) =
      some (0, ⟨true, false, 2, 0x05, 0x09, 0x09, 0x09, 0xFFFF⟩, [.response (.setDeviceId 0xFFFF)]) := by
  decide

theorem test_step_set_sleep_work_response :
    shown (completing #v[0xAA, 0xC5, 0x06, 0x00, 0x01, 0x00, 0xA1, 0x60, 0x08, 0xAB]) =
      some (0, ⟨true, false, 3, 0x06, 0x00, 0x01, 0x00, 0xA160⟩,
        [.response (.setSleepWork 0x00 0x01 0xA160)]) := by decide

/-- S1; the tail byte plays no part when it is not enforced (V-A). -/
theorem test_step_set_working_period_response :
    shown (completing (frameS1.set 9 0x00)) =
      some (0, ⟨true, false, 4, 0x08, 0x00, 0x05, 0x00, 0xA160⟩,
        [.response (.setWorkingPeriod 0x00 0x05 0xA160)]) := by decide

theorem test_step_get_firmware_version_response :
    shown (completing #v[0xAA, 0xC5, 0x07, 0x12, 0x0B, 0x10, 0xA1, 0x60, 0x35, 0xAB]) =
      some (0, ⟨true, false, 5, 0x07, 0x12, 0x0B, 0x10, 0xA160⟩,
        [.response (.getFirmwareVersion 18 11 16 0xA160)]) := by decide

theorem test_step_unknown_command :
    shown (completing #v[0xAA, 0xC5, 0x04, 0x00, 0x00, 0x00, 0xA1, 0x60, 0x05, 0xAB]) =
      some (0, ⟨true, true, 3, 0, 0, 0, 0, 0⟩, [.error .unknownCommand]) := by decide

/-- S4: the checksum is tested before the pair; and R73: a wrong tail before the checksum. -/
theorem test_step_failing_checks :
    shown (completing #v[0xAA, 0xC5, 0x09, 0x00, 0x05, 0x00, 0xA1, 0x60, 0x0E, 0xAB]) =
      some (0, ⟨true, true, 2, 0, 0, 0, 0, 0⟩, [.error .checksumMismatch]) ∧
    shown { completing #v[0xAA, 0xC5, 0x09, 0x00, 0x05, 0x00, 0xA1, 0x60, 0x0E, 0x00] with
      cfg := tailOn } = some (0, ⟨true, true, 4, 0, 0, 0, 0, 0⟩, [.error .badTail]) := by decide

/-! Commands: V-E1 (`L = 15`) and V-E2 (`L = 6`). -/

theorem test_set_reporting_mode :
    sentBy Config.default (.setReportingMode .set .query) = some [[0xAA, 0xB4, 0x02, 0x01, 0x01, 0, 0, 0,
      0, 0, 0, 0, 0, 0, 0, 0xFF, 0xFF, 0x02, 0xAB]] ∧
    sentBy ten (.setReportingMode .query .active) =
      some [[0xAA, 0xB4, 0x02, 0, 0, 0, 0xFF, 0xFF, 0x00, 0xAB]] := by decide

theorem test_query :
    sentBy Config.default .query = some [[0xAA, 0xB4, 0x04, 0, 0, 0, 0, 0, 0, 0, 0, 0, 0, 0, 0, 0xFF,
      0xFF, 0x02, 0xAB]] := by decide

theorem test_set_device_id :
    sentBy Config.default (.setDeviceId 0xA001) = some [[0xAA, 0xB4, 0x05, 0, 0, 0, 0, 0, 0, 0, 0, 0, 0,
      0xA0, 0x01, 0xFF, 0xFF, 0xA4, 0xAB]] ∧
    sentBy ten (.setDeviceId 0xA001) =
      some [[0xAA, 0xB4, 0x05, 0x00, 0xA0, 0x01, 0xFF, 0xFF, 0xA4, 0xAB]] := by decide

theorem test_set_sleep_work :
    sentBy Config.default (.setSleepWork .set .work) = some [[0xAA, 0xB4, 0x06, 0x01, 0x01, 0, 0, 0, 0,
      0, 0, 0, 0, 0, 0, 0xFF, 0xFF, 0x06, 0xAB]] ∧
    sentBy ten (.setSleepWork .query .sleep) =
      some [[0xAA, 0xB4, 0x06, 0, 0, 0, 0xFF, 0xFF, 0x04, 0xAB]] := by decide

/-- The greatest period leaves; one above it is refused and sends nothing (V-E3). -/
theorem test_set_working_period :
    sentBy Config.default (.setWorkingPeriod .set 30) = some [[0xAA, 0xB4, 0x08, 0x01, 0x1E, 0, 0, 0, 0,
      0, 0, 0, 0, 0, 0, 0xFF, 0xFF, 0x25, 0xAB]] ∧
    sentBy Config.default (.setWorkingPeriod .query 31) = some [] := by decide

theorem test_get_firmware_version :
    sentBy ten .getFirmwareVersion =
      some [[0xAA, 0xB4, 0x07, 0, 0, 0, 0xFF, 0xFF, 0x05, 0xAB]] := by decide

/-! Witnesses: a concrete state and operands meeting every hypothesis of a statement together, one for
each clause, at the edges of its range. -/

/-- The parameters at the edges of R4, and operands at their greatest. -/
theorem witness_DecodeOfEncodeIsTheOperation :
    Config.default.Legal ∧ tailOn.Legal ∧ shortest.Legal ∧ longest.Legal ∧
    WellFormed (.setWorkingPeriod .query 30) = true ∧ WellFormed (.noise 0xA9) = true ∧
    WellFormed (.unknownCommand 0xC5 0x04 0xFF 0xFF 0xFF 0xFFFF ⟨0xAA, 0xFF, 0xAB⟩) = true ∧
    WellFormed (.setDeviceId 0xFFFF) = true := by decide

/-- A wrong checksum byte, which the rows' masks do not look at. -/
theorem witness_DecodedCommandFrameIsEncoded :
    ten.Legal ∧ decode ten .cmd [0xAA, 0xB4, 0x08, 0x01, 0x1E, 0, 0xFF, 0xFF, 0x00, 0xAB] =
      .ok (.setWorkingPeriod .set 30) := by decide

theorem witness_StepRunsTheSelectedOperation :
    (∃ u : State, u.count = 0 ∧ (PortsIn.byte 0xAA).rst = false ∧ (PortsIn.byte 0xAA).rxValid = true) ∧
    (∃ u : State, u.count = 9 ∧ (PortsIn.byte 0xAB).rst = false ∧ (PortsIn.byte 0xAB).rxValid = true) ∧
    (at' 0 elevens (portsOfCommand (.setDeviceId 0xFFFF))).nextInput =
      portsOfCommand (.setDeviceId 0xFFFF) ∧
    (portsOfCommand (.setDeviceId 0xFFFF)).cmdValid = true ∧
    commandOfPorts (portsOfCommand (.setDeviceId 0xFFFF)) = some (.setDeviceId 0xFFFF) :=
  ⟨⟨at' 0 elevens (PortsIn.byte 0xAA), by decide⟩, ⟨at' 9 elevens (PortsIn.byte 0xAB), by decide⟩,
    by decide⟩

/-- Both clauses: a command, and an operation of the receive side. -/
theorem witness_EveryOperationCompletesAndKeepsTheOtherSide :
    Instr.format .query = .cmd ∧ Instr.format .head ≠ .cmd := by decide

/-- A step with both sides at work, for every statement whose hypothesis is a next state. -/
theorem witness_StepKeepsTheParameters :
    ∃ t, step (at' 9 frameS1 { PortsIn.byte 0xAB with cmdValid := true, cmdKind := 5 }) = .next t :=
  ⟨_, rfl⟩

theorem witness_NoByteChangesNothing :
    (at' 5 frameS3 { PortsIn.idle with rxData := 0xAA }).nextInput =
      { PortsIn.idle with rxData := 0xAA } ∧
    { PortsIn.idle with rxData := 0xAA }.rst = false ∧
    { PortsIn.idle with rxData := 0xAA }.rxValid = false := by decide

theorem witness_HeaderWhileIdleStartsAFrame :
    State.reset.cfg.LegalCount ∧ State.reset.count = 0 := by decide

theorem witness_NoiseWhileIdleIsDropped :
    State.reset.count = 0 ∧ (0xA9 : Byte) ≠ 0xAA ∧ (0xAB : Byte) ≠ 0xAA := by decide

/-- The least and the greatest count from which a byte is appended, and marker bytes. -/
theorem witness_ByteInMidFrameIsAppended :
    (at' 1 elevens (PortsIn.byte 0xAA)).nextInput = PortsIn.byte 0xAA ∧
    (PortsIn.byte 0xAA).rst = false ∧ (PortsIn.byte 0xAA).rxValid = true ∧
    1 ≤ (1 : Fin 10).val ∧ (1 : Fin 10).val ≤ 8 ∧
    (at' 1 elevens (PortsIn.byte 0xAA)).count = (1 : Fin 10).val ∧
    (at' 1 elevens (PortsIn.byte 0xAA)).cfg.LegalCount ∧
    (at' 8 elevens (PortsIn.byte 0xAB)).nextInput = PortsIn.byte 0xAB ∧
    1 ≤ (8 : Fin 10).val ∧ (8 : Fin 10).val ≤ 8 ∧
    (at' 8 elevens (PortsIn.byte 0xAB)).count = (8 : Fin 10).val ∧
    (at' 8 elevens (PortsIn.byte 0xAB)).cfg.LegalCount := by decide

theorem witness_TenthByteCompletesTheFrame :
    (completing frameS1).nextInput = PortsIn.byte 0xAB ∧ (PortsIn.byte 0xAB).rst = false ∧
    (PortsIn.byte 0xAB).rxValid = true ∧ (completing frameS1).count = 9 := by decide

/-- Both clauses, at the least and the greatest illegal count of four bits. -/
theorem witness_OverflowReportsAndResynchronises :
    (at' 10 elevens (PortsIn.byte 0xAA)).nextInput = PortsIn.byte 0xAA ∧
    (at' 10 elevens (PortsIn.byte 0xAA)).cfg.LegalCount ∧
    10 ≤ (at' 10 elevens (PortsIn.byte 0xAA)).count ∧ (PortsIn.byte 0xAA).rst = false ∧
    (PortsIn.byte 0xAA).rxValid = true ∧ (PortsIn.byte 0xAA).rxData = 0xAA ∧
    (at' 15 elevens (PortsIn.byte 0xAB)).nextInput = PortsIn.byte 0xAB ∧
    (at' 15 elevens (PortsIn.byte 0xAB)).cfg.LegalCount ∧
    10 ≤ (at' 15 elevens (PortsIn.byte 0xAB)).count ∧ (PortsIn.byte 0xAB).rst = false ∧
    (PortsIn.byte 0xAB).rxValid = true ∧ (PortsIn.byte 0xAB).rxData ≠ 0xAA := by decide

/-- A byte and a command offered together with reset. -/
theorem witness_ResetClearsTheReceiveSideOnly :
    (at' 9 frameS1 { PortsIn.byte 0xAB with rst := true, cmdValid := true }).nextInput =
      { PortsIn.byte 0xAB with rst := true, cmdValid := true } ∧
    { PortsIn.byte 0xAB with rst := true, cmdValid := true }.rst = true := by decide

/-- The least and the greatest legal count. -/
theorem witness_LegalStatesStayLegal :
    (at' 0 elevens (PortsIn.byte 0xAA)).Legal ∧ (∃ t, step (at' 0 elevens (PortsIn.byte 0xAA)) = .next t) ∧
    (completing frameS1).Legal ∧ (∃ t, step (completing frameS1) = .next t) :=
  ⟨by decide, ⟨_, rfl⟩, by decide, ⟨_, rfl⟩⟩

theorem witness_LegalCountsNeverOverflow :
    (completing frameS1).count ≤ 9 ∧ ∃ t, step (completing frameS1) = .next t :=
  ⟨by decide, ⟨_, rfl⟩⟩

/-- The least and the greatest legal count. -/
theorem witness_EveryEventIsPaidForWithTenBytes :
    (State.reset.count ≤ 9 ∧ ∃ t, step State.reset = .next t) ∧
    (completing frameS1).count ≤ 9 ∧ ∃ t, step (completing frameS1) = .next t :=
  ⟨⟨by decide, ⟨_, rfl⟩⟩, by decide, ⟨_, rfl⟩⟩

/-- The greatest value of a counter of four bits and of one of five, on a byte that starts a frame. -/
theorem witness_CountStaysWithinItsWidth :
    (State.CountFits (at' 15 elevens (PortsIn.byte 0xAA)) ∧
      ∃ t, step (at' 15 elevens (PortsIn.byte 0xAA)) = .next t) ∧
    State.CountFits { at' 31 elevens (PortsIn.byte 0xAA) with cfg := wider } ∧
    ∃ t, step { at' 31 elevens (PortsIn.byte 0xAA) with cfg := wider } = .next t ∧ t.count = 1 :=
  ⟨⟨by decide, ⟨_, rfl⟩⟩, by decide, ⟨_, rfl, by decide⟩⟩

/-- Two steps, from Idle, on two bytes. -/
theorem witness_EventsAreAtMostATenthOfTheBytes :
    ∃ s t : State, s.count = 0 ∧ Host.Core.run core 2 s = .next t ∧ t.count = 2 :=
  ⟨{ State.reset with inputs := [PortsIn.byte 0xAA, PortsIn.byte 0xC5] }, _, rfl, rfl, by decide⟩

/-- No noise, and one noise byte, before S1. -/
theorem witness_HeaderAlignedFrameIsDecodedAfterNoise :
    (∃ s : State, s.cfg.LegalCount ∧ s.count = 0 ∧ (∀ b ∈ ([] : List Byte), b ≠ 0xAA) ∧ frameS1[0] = 0xAA ∧
      s.inputs = (([] : List Byte) ++ frameS1.toList).map PortsIn.byte ++ []) ∧
    ∃ s : State, s.cfg.LegalCount ∧ s.count = 0 ∧ (∀ b ∈ [(0xAB : Byte)], b ≠ 0xAA) ∧ frameS1[0] = 0xAA ∧
      s.inputs = ([(0xAB : Byte)] ++ frameS1.toList).map PortsIn.byte ++ [PortsIn.idle] :=
  ⟨⟨{ State.reset with inputs := (([] : List Byte) ++ frameS1.toList).map PortsIn.byte ++ [] },
      by decide⟩,
    ⟨{ State.reset with
        inputs := ([(0xAB : Byte)] ++ frameS1.toList).map PortsIn.byte ++ [PortsIn.idle] }, by decide⟩⟩

/-- The greatest count of four bits, which is illegal. -/
theorem witness_AnyStateIsLegalWithinTenBytes :
    ∃ s : State, s.cfg.LegalCount ∧ s.count = 15 ∧ ¬s.Legal ∧ (List.replicate 10 (0xAA : Byte)).length = 10 ∧
      s.inputs = (List.replicate 10 (0xAA : Byte)).map PortsIn.byte ++ [] :=
  ⟨{ State.reset with
      count := 15, inputs := (List.replicate 10 (0xAA : Byte)).map PortsIn.byte ++ [] }, by decide⟩

/-- Each clause of R18: a quiet step, an error, no frame, no refusal. -/
theorem witness_QuietPortsAreZero :
    (∃ t, step State.reset = .next t ∧ t.evt.valid = false ∧ t.tx.valid = false ∧ t.tx.reject = false) ∧
    ∃ t, step (at' 15 elevens (PortsIn.byte 0x00)) = .next t ∧ t.evt.err = true :=
  ⟨⟨_, rfl, by decide⟩, ⟨_, rfl, by decide⟩⟩

/-- A response at the tenth byte, an error at an illegal count, and a quiet step. -/
theorem witness_EventPortsShowTheStepsEvent :
    (∃ t, step (completing frameS1) = .next t ∧
      t.events = [.response (.setWorkingPeriod 0x00 0x05 0xA160)]) ∧
    (∃ t, step (at' 15 elevens (PortsIn.byte 0x00)) = .next t ∧ t.events = [.error .frameTooLong]) ∧
    ∃ t, step State.reset = .next t ∧ t.events = [] :=
  ⟨⟨_, rfl, by decide⟩, ⟨_, rfl, by decide⟩, ⟨_, rfl, by decide⟩⟩

theorem witness_TransmitStreamGrowsByTheFramesShown :
    (∃ t, step State.reset = .next t ∧ t.tx.valid = false) ∧
    ∃ t, step (at' 0 elevens (portsOfCommand .query)) = .next t ∧ t.tx.valid = true :=
  ⟨⟨_, rfl, by decide⟩, ⟨_, rfl, by decide⟩⟩

/-- Two states that differ in everything the transmit side has, then two that differ in everything the
receive side has. -/
theorem witness_SidesDoNotInteract :
    (∃ s s' t t' : State, step s = .next t ∧ step s' = .next t' ∧ s'.cfg = s.cfg ∧ s' ≠ s ∧
      s'.count = s.count ∧ s'.buf = s.buf ∧ s'.nextInput.rst = s.nextInput.rst ∧
      s'.nextInput.rxValid = s.nextInput.rxValid ∧ s'.nextInput.rxData = s.nextInput.rxData) ∧
    ∃ s s' t t' : State, step s = .next t ∧ step s' = .next t' ∧ s'.cfg = s.cfg ∧ s' ≠ s ∧
      s'.nextInput.cmdValid = s.nextInput.cmdValid ∧ s'.nextInput.cmdKind = s.nextInput.cmdKind ∧
      s'.nextInput.cmdQuery = s.nextInput.cmdQuery ∧ s'.nextInput.cmdMode = s.nextInput.cmdMode ∧
      s'.nextInput.cmdPeriod = s.nextInput.cmdPeriod ∧ s'.nextInput.cmdId = s.nextInput.cmdId :=
  ⟨⟨completing frameS1,
      { completing frameS1 with
        sent := [[0xAA]], inputs := [{ PortsIn.byte 0xAB with cmdValid := true, cmdKind := 5 }] },
      _, _, rfl, rfl, by decide⟩,
    ⟨completing frameS1, at' 15 elevens (PortsIn.byte 0x37), _, _, rfl, rfl, by decide⟩⟩

/-- The first and the last offset of the checksum's reach. -/
theorem witness_OneChangedByteIsAChecksumMismatch :
    SumMatches frameS1 ∧ TailPasses Config.default frameS1 ∧ TailPasses tailOn frameS1 ∧
    2 ≤ (2 : Fin 10).val ∧ (2 : Fin 10).val ≤ 8 ∧ (0x09 : Byte) ≠ frameS1[2] ∧
    2 ≤ (8 : Fin 10).val ∧ (8 : Fin 10).val ≤ 8 ∧ (0x0F : Byte) ≠ frameS1[8] := by decide

theorem witness_ChangedCommandIdIsAcceptedAsAQuery :
    SumMatches frameS1 ∧ TailPasses Config.default frameS1 ∧ TailPasses tailOn frameS1 := by decide

/-- The frame of V-D1 whose span is all 0xFF, with the tail enforced, and without. -/
theorem witness_GoodQueryResponseIsReported :
    ∃ f : Frame, InPhase (completingChecked f) f ∧ InPhase (completing f) f ∧ f[1] = 0xC0 ∧
      SumMatches f ∧ TailPasses (completingChecked f).cfg f ∧ TailPasses (completing f).cfg f :=
  ⟨#v[0xAA, 0xC0, 0xFF, 0xFF, 0xFF, 0xFF, 0xFF, 0xFF, 0xFA, 0xAB], by decide⟩

theorem witness_GoodReportingModeResponseIsReported :
    ∃ f : Frame, InPhase (completingChecked f) f ∧ f[1] = 0xC5 ∧ f[2] = 0x02 ∧ f[4] = 0x01 ∧
      SumMatches f ∧ TailPasses (completingChecked f).cfg f :=
  ⟨#v[0xAA, 0xC5, 0x02, 0x00, 0x01, 0x00, 0xA1, 0x60, 0x04, 0xAB], by decide⟩

theorem witness_GoodDeviceIdResponseIsReported :
    ∃ f : Frame, InPhase (completingChecked f) f ∧ f[1] = 0xC5 ∧ f[2] = 0x05 ∧
      SumMatches f ∧ TailPasses (completingChecked f).cfg f :=
  ⟨#v[0xAA, 0xC5, 0x05, 0x09, 0x09, 0x09, 0xFF, 0xFF, 0x1E, 0xAB], by decide⟩

theorem witness_GoodSleepWorkResponseIsReported :
    ∃ f : Frame, InPhase (completingChecked f) f ∧ f[1] = 0xC5 ∧ f[2] = 0x06 ∧ f[4] = 0x01 ∧
      SumMatches f ∧ TailPasses (completingChecked f).cfg f :=
  ⟨#v[0xAA, 0xC5, 0x06, 0x01, 0x01, 0x00, 0xA1, 0x60, 0x09, 0xAB], by decide⟩

/-- The tail not enforced, and wrong. -/
theorem witness_GoodWorkingPeriodResponseIsReported :
    ∃ f : Frame, InPhase (completing f) f ∧ f[1] = 0xC5 ∧ f[2] = 0x08 ∧ f[9] ≠ 0xAB ∧
      SumMatches f ∧ TailPasses (completing f).cfg f :=
  ⟨#v[0xAA, 0xC5, 0x08, 0x00, 0xFF, 0x00, 0xA1, 0x60, 0x08, 0x00], by decide⟩

theorem witness_GoodFirmwareVersionResponseIsReported :
    ∃ f : Frame, InPhase (completingChecked f) f ∧ f[1] = 0xC5 ∧ f[2] = 0x07 ∧
      SumMatches f ∧ TailPasses (completingChecked f).cfg f :=
  ⟨#v[0xAA, 0xC5, 0x07, 0xFF, 0xFF, 0xFF, 0xA1, 0x60, 0x05, 0xAB], by decide⟩

/-- An unknown second byte under the known id, and a known second byte under an unknown id. -/
theorem witness_UnknownPairIsReported :
    (∃ f : Frame, InPhase (completingChecked f) f ∧ f[1] ≠ 0xC0 ∧
      ¬(f[1] = 0xC5 ∧ f[2] ∈ [(0x02 : Byte), 0x05, 0x06, 0x08, 0x07]) ∧
      SumMatches f ∧ TailPasses (completingChecked f).cfg f) ∧
    ∃ f : Frame, InPhase (completingChecked f) f ∧ f[1] ≠ 0xC0 ∧
      ¬(f[1] = 0xC5 ∧ f[2] ∈ [(0x02 : Byte), 0x05, 0x06, 0x08, 0x07]) ∧
      SumMatches f ∧ TailPasses (completingChecked f).cfg f :=
  ⟨⟨#v[0xAA, 0xC5, 0x04, 0x00, 0x00, 0x00, 0xA1, 0x60, 0x05, 0xAB], by decide⟩,
    ⟨#v[0xAA, 0xC4, 0x08, 0x00, 0x05, 0x00, 0xA1, 0x60, 0x0E, 0xAB], by decide⟩⟩

/-- A sum one too great for the checksum byte, with the tail enforced and right. -/
theorem witness_WrongChecksumIsReported :
    (completingChecked (frameS1.set 2 0x09)).count = 9 ∧ (PortsIn.byte 0xAB).rst = false ∧
    (PortsIn.byte 0xAB).rxValid = true ∧
    (completingChecked (frameS1.set 2 0x09)).buf.set 9 (PortsIn.byte 0xAB).rxData =
      frameS1.set 2 0x09 ∧
    TailPasses (completingChecked (frameS1.set 2 0x09)).cfg (frameS1.set 2 0x09) ∧
    ¬SumMatches (frameS1.set 2 0x09) := by decide

/-- Both clauses: the tail enforced and one below right, the tail not enforced. -/
theorem witness_WrongTailIsReportedFirst :
    (completingChecked (frameS1.set 9 0xAA)).count = 9 ∧ (PortsIn.byte 0xAA).rst = false ∧
    (PortsIn.byte 0xAA).rxValid = true ∧
    (completingChecked (frameS1.set 9 0xAA)).buf.set 9 (PortsIn.byte 0xAA).rxData =
      frameS1.set 9 0xAA ∧
    (completingChecked (frameS1.set 9 0xAA)).cfg.tailCheck = true ∧
    (frameS1.set 9 0xAA)[9] ≠ (completingChecked (frameS1.set 9 0xAA)).cfg.tail ∧
    Config.default.tailCheck = false := by decide

/-- The raw bytes at which each clause begins. -/
theorem witness_ViewsOfRawFields :
    2 ≤ (0x02 : Byte).toNat ∧ 2 ≤ (0xFF : Byte).toNat ∧ (0x01 : Byte) ≠ 0x00 ∧
    reportingModeView 0x02 = .reserved 0x02 ∧ sleepWorkView 0x02 = .reserved 0x02 ∧
    WorkingPeriod.ofRaw 0x01 = .periodic 0x01 := by decide

/-- S8: both ends of every clause. -/
theorem witness_WorkingPeriodsAreZeroToThirty :
    workingPeriodOf (-1) = .error .outOfRange ∧ workingPeriodOf 0 = .ok .continuous ∧
    workingPeriodOf 1 = .ok (.periodic 0x01) ∧ workingPeriodOf 30 = .ok (.periodic 0x1E) ∧
    workingPeriodOf 31 = .error .outOfRange := by decide

/-- The six command statements: a state whose parameters are legal, at both ends of `L`; ports that offer
the first and the last kind; the greatest admitted period and the least refused one. -/
theorem witness_commands_leave :
    { State.reset with cfg := shortest }.cfg.Legal ∧ { State.reset with cfg := longest }.cfg.Legal ∧
    State.reset.cfg.Legal ∧ (portsOfCommand (.setReportingMode .query .query)).cmdKind = 0 ∧
    (portsOfCommand .query).cmdKind = 1 ∧ (portsOfCommand (.setDeviceId 0)).cmdKind = 2 ∧
    (portsOfCommand (.setSleepWork .set .work)).cmdKind = 3 ∧
    (portsOfCommand (.setWorkingPeriod .set 30)).cmdKind = 4 ∧
    (portsOfCommand .getFirmwareVersion).cmdKind = 5 ∧
    (30 : Byte).toNat ≤ 30 ∧ 30 < (31 : Byte).toNat := by decide

/-- Every clause of the admission, at its edges. -/
theorem witness_AdmissionFollowsKindAndPeriod :
    (∃ (s : State) (p : PortsIn), s.nextInput = p ∧ p.cmdValid = true ∧ p.cmdKind.toNat = 6) ∧
    (∃ (s : State) (p : PortsIn), s.nextInput = p ∧ p.cmdValid = true ∧ p.cmdKind = 4 ∧
      p.cmdPeriod.toNat = 31) ∧
    (∃ (s : State) (p : PortsIn), s.nextInput = p ∧ p.cmdValid = true ∧ p.cmdKind = 4 ∧
      p.cmdPeriod.toNat = 30) ∧
    ∃ (s : State) (p : PortsIn), s.nextInput = p ∧ p.cmdValid = true ∧ p.cmdKind.toNat = 5 :=
  ⟨⟨at' 0 elevens { PortsIn.idle with cmdValid := true, cmdKind := 6 }, _, rfl, by decide⟩,
    ⟨at' 0 elevens { PortsIn.idle with cmdValid := true, cmdKind := 4, cmdPeriod := 31 }, _, rfl,
      by decide⟩,
    ⟨at' 0 elevens { PortsIn.idle with cmdValid := true, cmdKind := 4, cmdPeriod := 30 }, _, rfl,
      by decide⟩,
    ⟨at' 0 elevens { PortsIn.idle with cmdValid := true, cmdKind := 5 }, _, rfl, by decide⟩⟩

/-- V-E3: kinds 6 and 7 are refused with cause 1, whatever the period. -/
theorem test_illegal_kinds :
    (nextOf (step (at' 0 elevens { PortsIn.idle with cmdValid := true, cmdKind := 6, cmdPeriod := 31 }))).map
      (fun t => t.tx) = some ⟨false, List.replicate 19 0, true, 1⟩ ∧
    (nextOf (step (at' 0 elevens { PortsIn.idle with cmdValid := true, cmdKind := 7 }))).map
      (fun t => t.tx) = some ⟨false, List.replicate 19 0, true, 1⟩ := by decide

theorem witness_NoCommandProducesNothing :
    (at' 0 elevens { PortsIn.idle with cmdKind := 6, cmdPeriod := 31 }).nextInput =
      { PortsIn.idle with cmdKind := 6, cmdPeriod := 31 } ∧
    { PortsIn.idle with cmdKind := 6, cmdPeriod := 31 }.cmdValid = false := by decide

/-- Two offers of one command that differ on every port its variant does not use, and on no other. -/
def differInUnused (p q : PortsIn) : Prop :=
  q ≠ p ∧ q.cmdValid = p.cmdValid ∧ q.cmdKind = p.cmdKind ∧
    (p.cmdKind = 0 ∨ p.cmdKind = 3 → q.cmdQuery = p.cmdQuery ∧ q.cmdMode = p.cmdMode) ∧
    (p.cmdKind = 2 → q.cmdId = p.cmdId) ∧
    (p.cmdKind = 4 → q.cmdQuery = p.cmdQuery ∧ q.cmdPeriod = p.cmdPeriod)

theorem witness_UnusedCommandPortsAreIgnored :
    differInUnused (portsOfCommand (.setReportingMode .set .active))
      { portsOfCommand (.setReportingMode .set .active) with cmdPeriod := 31, cmdId := 0xFFFF } ∧
    differInUnused (portsOfCommand (.setDeviceId 0xA001))
      { portsOfCommand (.setDeviceId 0xA001) with cmdPeriod := 31, cmdQuery := true, cmdMode := true } ∧
    differInUnused (portsOfCommand (.setWorkingPeriod .set 30))
      { portsOfCommand (.setWorkingPeriod .set 30) with cmdId := 0xFFFF, cmdMode := true } := by
  unfold differInUnused
  decide

theorem witness_CommandFrameParsesBack :
    shortest.Legal ∧ longest.Legal ∧ WellFormed (.setWorkingPeriod .set 30) = true ∧
    Instr.format (.setWorkingPeriod .set 30) = .cmd ∧ WellFormed (.setDeviceId 0xFFFF) = true ∧
    Instr.format (.setDeviceId 0xFFFF) = .cmd := by decide

end Sys2Proof.Tests
end

section
/-! SUPPORT. What a step shows on the output ports (R18), for every input: the event ports are idle or carry
one event, the transmit ports are idle or carry one refusal or one frame. -/

namespace Sys2Proof.Machine

variable (s : State)

/-! The ports an event drives. -/

@[simp] theorem portsOfEvent_valid (f : Frame) (e : Event) : (portsOfEvent f e).valid = true := by
  cases e with
  | response r => rfl
  | error cause => rfl

/-- Only an error drives `evt_err` (R17, R85). -/
theorem portsOfEvent_err_iff (f : Frame) (e : Event) :
    (portsOfEvent f e).err = true ↔ ∃ cause, e = .error cause := by
  cases e with
  | response r => simp [portsOfEvent, EventPorts.ofResponse]
  | error cause => simp [portsOfEvent, EventPorts.ofError]

/-! The receive side. -/

/-- A received byte gives no event, or one, shown with the frame it would complete; a response only at
count 9 (R63 to R67). -/
theorem State.acceptByte_event_cases (b : Byte) :
    ((s.acceptByte b).evt = EventPorts.idle ∧ (s.acceptByte b).events = s.events) ∨
    ∃ e, (s.acceptByte b).evt = portsOfEvent (s.frameWith b) e ∧
      (s.acceptByte b).events = s.events ++ [e] ∧ ∀ r, e = .response r → s.count = 9 := by
  obtain ⟨-, -, h⟩ | ⟨-, -, h⟩ | ⟨-, h8, h⟩ | ⟨h9, h⟩ | ⟨-, h⟩ := s.acceptByte_cases b
  · exact .inl (by simp [h])
  · exact .inl (by simp [h])
  · exact .inl (by simp [h])
  · exact .inr ⟨frameEvent s.cfg (s.frameWith b), by simp [h, frameEvent, frameResult],
      by simp [h, frameEvent, frameResult], fun _ _ => h9⟩
  · refine .inr ⟨.error .frameTooLong, ?_⟩
    obtain ⟨-, h'⟩ | ⟨-, h'⟩ := s.overflowByte_cases b <;> simp [h, h', portsOfEvent]

/-- The event of a step: none, or the one of the byte received outside reset (R62, R99, R63 to R67). -/
theorem step_event_cases {t : State} (h : step s = .next t) :
    (t.evt = EventPorts.idle ∧ t.events = s.events) ∨
    ∃ e, t.evt = portsOfEvent (s.frameWith s.nextInput.rxData) e ∧ t.events = s.events ++ [e] ∧
      ∀ r, e = .response r →
        s.count = 9 ∧ s.nextInput.rst = false ∧ s.nextInput.rxValid = true := by
  obtain ⟨u, -, -, -, hcount, hbuf, -, hevents, hstep⟩ := step_eq s
  obtain rfl := Host.Outcome.next.inj (hstep.symm.trans h)
  split_ifs with hrst hrx
  · exact .inl (by simp [hevents])
  · exact .inl (by simp [hevents])
  · have hframe : u.frameWith s.nextInput.rxData = s.frameWith s.nextInput.rxData := by
      simp [State.frameWith, hbuf]
    have hc := u.acceptByte_event_cases s.nextInput.rxData
    rw [hframe, hevents, hcount] at hc
    refine hc.imp_right ?_
    rintro ⟨e, hevt, hes, hresp⟩
    exact ⟨e, hevt, hes, fun r hr => ⟨hresp r hr, by simpa using hrst, by simpa using hrx⟩⟩

/-! The transmit side. -/

/-- Nothing the receive side does reaches the transmit side (R26). -/
theorem receiveSide_keepsTransmit (p : PortsIn) {t : State} (h : receiveSide p s = .next t) :
    s.KeepsTransmit t := by
  obtain rfl := Host.Outcome.next.inj ((receiveSide_eq p s).symm.trans h)
  split_ifs
  · simp [State.KeepsTransmit]
  · simp [State.KeepsTransmit]
  · exact s.acceptByte_keepsTransmit _

/-- The transmit ports after a step: idle, a refusal, or the frame of a data section (R52, R53). -/
theorem step_tx_cases {t : State} (h : step s = .next t) :
    t.tx = TxPorts.idle s.cfg ∨ (∃ cause, t.tx = TxPorts.ofReject s.cfg cause) ∨
    ∃ payload, t.tx = TxPorts.ofFrame (commandFrame s.cfg payload) := by
  rw [step, bothSides] at h
  obtain ⟨-, hu⟩ | ⟨-, -, hu⟩ | ⟨-, -, -, hu⟩ | ⟨-, -, -, payload, hu⟩ :=
    transmitSide_cases s.nextInput s.advance <;>
    rw [hu, andThen_next] at h <;>
    obtain ⟨-, -, htx, -⟩ := receiveSide_keepsTransmit _ _ h
  · exact .inl (by simp [htx])
  · exact .inr (.inl ⟨.unknownKind, by simp [htx]⟩)
  · exact .inr (.inl ⟨.periodRange, by simp [htx]⟩)
  · exact .inr (.inr ⟨payload, by simp [htx]⟩)

/-! R18. -/

/-- With no event, every event port is 0 (R18). -/
theorem step_evt_eq_idle {t : State} (h : step s = .next t) (hv : t.evt.valid = false) :
    t.evt = EventPorts.idle := by
  obtain ⟨hevt, -⟩ | ⟨e, hevt, -⟩ := step_event_cases s h
  · exact hevt
  · simp [hevt] at hv

/-- With an error, the event ports carry its cause and nothing else (R18, R89). -/
theorem step_evt_eq_ofError {t : State} (h : step s = .next t) (herr : t.evt.err = true) :
    ∃ cause, t.evt = EventPorts.ofError cause := by
  obtain ⟨hevt, -⟩ | ⟨e, hevt, -⟩ := step_event_cases s h
  · rw [hevt] at herr
    exact absurd herr Bool.false_ne_true
  · rw [hevt, portsOfEvent_err_iff] at herr
    obtain ⟨cause, rfl⟩ := herr
    exact ⟨cause, hevt⟩

/-- Settles O24: the event ports are idle, a response's or an error's, and the transmit ports are idle, a
refusal's or a frame's; each of these has its quiet ports at 0. -/
theorem quietPortsAreZero : Obligations.QuietPortsAreZero := by
  unfold Obligations.QuietPortsAreZero
  intro s t h
  refine ⟨fun hv => ?_, fun herr => ?_, fun hv => ?_, fun hr => ?_⟩
  · simp [step_evt_eq_idle s h hv, EventPorts.idle]
  · obtain ⟨cause, hevt⟩ := step_evt_eq_ofError s h herr
    simp [hevt, EventPorts.ofError, EventPorts.idle]
  · obtain htx | ⟨cause, htx⟩ | ⟨payload, htx⟩ := step_tx_cases s h
    · simp [htx, TxPorts.idle, Config.cmdFrameLen]
    · simp [htx, TxPorts.ofReject, TxPorts.idle, Config.cmdFrameLen]
    · simp [htx, TxPorts.ofFrame] at hv
  · obtain htx | ⟨cause, htx⟩ | ⟨payload, htx⟩ := step_tx_cases s h
    · simp [htx, TxPorts.idle]
    · simp [htx, TxPorts.ofReject] at hr
    · simp [htx, TxPorts.ofFrame]

end Sys2Proof.Machine
end

section
/-! SUPPORT. The checksum as a sum of natural numbers (R47). -/

namespace Sys2Proof

/-- The 16-bit accumulation from any start is the true sum, wrapped at 16 bits. -/
theorem foldl_add_setWidth_toNat (s : List Byte) (acc : BitVec 16) :
    (s.foldl (fun (acc : BitVec 16) b => acc + b.setWidth 16) acc).toNat =
      (acc.toNat + (s.map BitVec.toNat).sum) % 65536 := by
  induction s generalizing acc with
  | nil => simpa using (Nat.mod_eq_of_lt acc.isLt).symm
  | cons b s ih =>
    have hacc : (acc + b.setWidth 16).toNat = (acc.toNat + b.toNat) % 65536 := by
      simp [BitVec.toNat_add]
    rw [List.foldl_cons, ih, hacc, List.map_cons, List.sum_cons, Nat.mod_add_mod, Nat.add_assoc]

/-- The checksum in the accumulator's terms: the sum wrapped at 16 bits, then cut to its low 8 (R47). -/
theorem checksum_toNat_wrapped (s : List Byte) :
    (checksum s).toNat = (s.map BitVec.toNat).sum % 65536 % 256 := by
  rw [checksum, BitVec.toNat_setWidth, foldl_add_setWidth_toNat]
  simp

/-- The wrap at 16 bits does not show in the low 8, since 256 divides 65536. -/
theorem checksum_toNat (s : List Byte) : (checksum s).toNat = (s.map BitVec.toNat).sum % 256 := by
  rw [checksum_toNat_wrapped, Nat.mod_mod_of_dvd _ (by decide)]

/-- Settles O29, by induction over the fold from any accumulator. -/
theorem checksumIsTheLowByteOfTheSum : Obligations.ChecksumIsTheLowByteOfTheSum := by
  unfold Obligations.ChecksumIsTheLowByteOfTheSum
  exact fun s => ⟨checksum_toNat_wrapped s, checksum_toNat s⟩

end Sys2Proof
end

section
/-! SUPPORT. Command frames (R39 to R42, R52): what a data section holds at each offset, and the state after it
has left as a frame. -/

namespace Sys2Proof.Machine

/-- `p` is the data section `p[0]` to `p[L-1]` of R41: `named i` below the all-ones marker, then the marker. -/
structure IsPayload (c : Config) (named : Nat → Byte) (p : List Byte) : Prop where
  length : p.length = c.cmdPayloadLen
  byte : ∀ i, i < c.cmdPayloadLen →
    p[i]? = some (if i < c.cmdPayloadLen - 2 then named i else cmdTarget)

variable {c : Config} {named : Nat → Byte} {p : List Byte}

theorem IsPayload.congr {named' : Nat → Byte} (h : IsPayload c named p)
    (e : ∀ i, named i = named' i) : IsPayload c named' p :=
  (funext e : named = named') ▸ h

/-- Setting a byte below the marker sets that named byte. -/
theorem IsPayload.set (h : IsPayload c named p) {k : Nat} (hk : k < c.cmdPayloadLen - 2) (v : Byte) :
    IsPayload c (Function.update named k v) (p.set k v) where
  length := by rw [List.length_set, h.length]
  byte i hi := by
    by_cases hik : i = k
    · subst hik
      rw [List.getElem?_set_self (by rwa [h.length]), if_pos hk, Function.update_self]
    · rw [List.getElem?_set_ne (Ne.symm hik), h.byte i hi, Function.update_of_ne hik]

/-- Before its named bytes are set, a data section is zero below the marker. -/
theorem isPayload_blankPayload (h : c.Legal) : IsPayload c (fun _ => 0) (blankPayload c) where
  length := Laws.blankPayload_length c h
  byte i hi := by
    unfold blankPayload
    split_ifs with hik
    · rw [List.getElem?_append_left (by simpa using hik)]
      simp [hik]
    · have hmark : i - (c.cmdPayloadLen - 2) = 0 ∨ i - (c.cmdPayloadLen - 2) = 1 := by omega
      rw [List.getElem?_append_right (by simpa using hik), List.length_replicate]
      obtain hm | hm := hmark <;> simp [hm]

theorem isPayload_barePayload (h : c.Legal) (sub : Byte) :
    IsPayload c (fun i => if i = 0 then sub else 0) (barePayload c sub) := by
  have hL := h.1
  refine ((isPayload_blankPayload h).set (k := 0) (by omega) sub).congr fun i => ?_
  rw [Function.update_apply]

theorem isPayload_flagValuePayload (h : c.Legal) (sub flag value : Byte) :
    IsPayload c (fun i => if i = 0 then sub else if i = 1 then flag else if i = 2 then value else 0)
      (flagValuePayload c sub flag value) := by
  have hL := h.1
  refine (((isPayload_barePayload h sub).set (k := 1) (by omega) flag).set (k := 2) (by omega)
    value).congr fun i => ?_
  simp only [Function.update_apply]
  grind

/-- The three named offsets are different, since a legal `L` is at least 5. -/
theorem isPayload_deviceIdPayload (h : c.Legal) (id : Half) :
    IsPayload c (fun i => if i = 0 then c.subDeviceId
      else if i = c.cmdPayloadLen - 4 then hiByte id
      else if i = c.cmdPayloadLen - 3 then loByte id else 0) (deviceIdPayload c id) := by
  have hL := h.1
  refine (((isPayload_barePayload h c.subDeviceId).set (k := c.cmdPayloadLen - 4) (by omega)
    (hiByte id)).set (k := c.cmdPayloadLen - 3) (by omega) (loByte id)).congr fun i => ?_
  simp only [Function.update_apply]
  grind

/-! From the data section to the frame (R39, R52). -/

theorem commandFrame_getElem?_payload (c : Config) (p : List Byte) {i : Nat} (hi : i < p.length) :
    (commandFrame c p)[i + 2]? = p[i]? := by
  simp [commandFrame, List.getElem?_append_left hi]

/-- The checksum follows the data section. -/
theorem commandFrame_getElem?_checksum (c : Config) (p : List Byte) :
    (commandFrame c p)[p.length + 2]? = some (checksum p) := by
  simp [commandFrame]

/-- The tail marker is the last byte. -/
theorem commandFrame_getElem?_tail (c : Config) (p : List Byte) :
    (commandFrame c p)[p.length + 3]? = some c.tail := by
  simp [commandFrame]

theorem payloadOf_commandFrame (h : p.length = c.cmdPayloadLen) :
    payloadOf c (commandFrame c p) = p := by
  simp [payloadOf, commandFrame, ← h]

theorem IsPayload.isCommandFrame (h : IsPayload c named p) (hc : c.Legal) :
    IsCommandFrame c named (commandFrame c p) := by
  have hL := hc.1
  have hbyte : ∀ i, i < c.cmdPayloadLen → (commandFrame c p)[i + 2]? =
      some (if i < c.cmdPayloadLen - 2 then named i else cmdTarget) := fun i hi => by
    rw [commandFrame_getElem?_payload c p (h.length.symm ▸ hi), h.byte i hi]
  have hmark : ∀ k, k < 2 → (commandFrame c p)[c.cmdPayloadLen + k]? = some 0xFF := fun k hk => by
    have hb := hbyte (c.cmdPayloadLen - 2 + k) (by omega)
    rwa [if_neg (by omega), show c.cmdPayloadLen - 2 + k + 2 = c.cmdPayloadLen + k by omega] at hb
  refine ⟨?_, rfl, rfl, fun i hi => ?_, hmark 0 (by omega), hmark 1 (by omega), ?_, ?_⟩
  · rw [Laws.commandFrame_length, h.length]
  · rw [hbyte i (by omega), if_pos hi]
  · rw [payloadOf_commandFrame h.length, ← h.length, commandFrame_getElem?_checksum]
  · rw [← h.length, commandFrame_getElem?_tail]

/-- A data section that is transmitted is on the ports and in the stream as its frame, and nothing else
changes (R16, R52). -/
theorem State.transmit_afterCommand {s : State} (h : IsPayload s.cfg named p) (hc : s.cfg.Legal) :
    s.AfterCommand (s.transmit p) named :=
  ⟨h.isCommandFrame hc, rfl, rfl, rfl, rfl, s.transmit_keepsReceive p⟩

/-- A refused command drives its cause and no byte, and nothing else changes (R53). -/
theorem State.rejectCommand_afterRefusal (s : State) (cause : RejectCause) :
    s.AfterRefusal (s.rejectCommand cause) cause.code :=
  ⟨rfl, rfl, rfl, rfl, rfl, s.rejectCommand_keepsReceive cause⟩

end Sys2Proof.Machine
end

section
/-! SUPPORT. The six commands (R54 to R59): the operation each kind selects, the bytes of its operands, and its
frame. -/

namespace Sys2Proof.Machine

/-! The operands' bytes as R42 gives them. -/

theorem flagByte_eq (a : Access) : flagByte a = if a = .query then 0x00 else 0x01 := by
  cases a <;> rfl

theorem reportingModeByte_eq (m : ReportingMode) :
    reportingModeByte m = if m = .active then 0x00 else 0x01 := by
  cases m <;> rfl

theorem sleepWorkByte_eq (m : SleepWork) : sleepWorkByte m = if m = .sleep then 0x00 else 0x01 := by
  cases m <;> rfl

theorem hiByte_eq_ofNat_div (v : Half) : hiByte v = BitVec.ofNat 8 (v.toNat / 256) := by
  apply BitVec.eq_of_toNat_eq
  simp [hiByte, Nat.shiftRight_eq_div_pow]

theorem loByte_eq_ofNat_mod (v : Half) : loByte v = BitVec.ofNat 8 (v.toNat % 256) := by
  apply BitVec.eq_of_toNat_eq
  simp [loByte]

/-! The six commands. -/

/-- Settles O44: kind 0 selects the operation, and its data section is a sub-type, a flag and a mode. -/
theorem reportingModeCommandLeaves : Obligations.ReportingModeCommandLeaves := by
  unfold Obligations.ReportingModeCommandLeaves
  refine ⟨rfl, fun p hk => ?_, fun s a m hc => ⟨_, rfl, ?_⟩⟩
  · simp [commandOfPorts, hk, accessOfPort, reportingModeOfPort]
  · rw [← flagByte_eq, ← reportingModeByte_eq]
    exact State.transmit_afterCommand (isPayload_flagValuePayload hc _ _ _) hc

/-- Settles O45: kind 1 selects the operation, and its data section is a sub-type only. -/
theorem queryCommandLeaves : Obligations.QueryCommandLeaves := by
  unfold Obligations.QueryCommandLeaves
  refine ⟨rfl, fun p hk => ?_, fun s hc => ⟨_, rfl, ?_⟩⟩
  · simp [commandOfPorts, hk]
  · exact State.transmit_afterCommand (isPayload_barePayload hc _) hc

/-- Settles O46: kind 2 selects the operation, and its data section is a sub-type and the two bytes of the
id before the marker. -/
theorem deviceIdCommandLeaves : Obligations.DeviceIdCommandLeaves := by
  unfold Obligations.DeviceIdCommandLeaves
  refine ⟨rfl, fun p hk => ?_, fun s id hc => ⟨_, rfl, ?_⟩⟩
  · simp [commandOfPorts, hk]
  · rw [← hiByte_eq_ofNat_div, ← loByte_eq_ofNat_mod]
    exact State.transmit_afterCommand (isPayload_deviceIdPayload hc id) hc

/-- Settles O47: kind 3 selects the operation, and its data section is a sub-type, a flag and a mode. -/
theorem sleepWorkCommandLeaves : Obligations.SleepWorkCommandLeaves := by
  unfold Obligations.SleepWorkCommandLeaves
  refine ⟨rfl, fun p hk => ?_, fun s a m hc => ⟨_, rfl, ?_⟩⟩
  · simp [commandOfPorts, hk, accessOfPort, sleepWorkOfPort]
  · rw [← flagByte_eq, ← sleepWorkByte_eq]
    exact State.transmit_afterCommand (isPayload_flagValuePayload hc _ _ _) hc

/-- R58, admitted. -/
theorem exec_setWorkingPeriod_of_le (s : State) (a : Access) {period : Byte}
    (h : period.toNat ≤ periodMax) :
    exec (.setWorkingPeriod a period) s = .next (s.transmit (workingPeriodPayload s.cfg a period)) := by
  simp [exec, execSetWorkingPeriod, periodRefused, Nat.not_lt.mpr h]

/-- R53: the period is out of range. -/
theorem exec_setWorkingPeriod_of_lt (s : State) (a : Access) {period : Byte}
    (h : periodMax < period.toNat) :
    exec (.setWorkingPeriod a period) s = .next (s.rejectCommand .periodRange) := by
  simp [exec, execSetWorkingPeriod, periodRefused, h]

/-- Settles O48: kind 4 selects the operation, and the period decides between a data section of a sub-type,
a flag and the period, and the refusal. -/
theorem workingPeriodCommandLeaves : Obligations.WorkingPeriodCommandLeaves := by
  unfold Obligations.WorkingPeriodCommandLeaves
  refine ⟨rfl, fun p hk => ?_, fun s a period hc hp => ?_, fun s a period hp => ?_⟩
  · simp [commandOfPorts, hk, accessOfPort]
  · rw [← flagByte_eq]
    exact ⟨_, exec_setWorkingPeriod_of_le s a hp,
      State.transmit_afterCommand (isPayload_flagValuePayload hc _ _ _) hc⟩
  · exact ⟨_, exec_setWorkingPeriod_of_lt s a hp, s.rejectCommand_afterRefusal .periodRange⟩

/-- Settles O49: kind 5 selects the operation, and its data section is a sub-type only. -/
theorem firmwareCommandLeaves : Obligations.FirmwareCommandLeaves := by
  unfold Obligations.FirmwareCommandLeaves
  refine ⟨rfl, fun p hk => ?_, fun s hc => ⟨_, rfl, ?_⟩⟩
  · simp [commandOfPorts, hk]
  · exact State.transmit_afterCommand (isPayload_barePayload hc _) hc

end Sys2Proof.Machine
end

section
/-! SUPPORT. Admission of an offered command (R53) and working periods (R61). -/

namespace Sys2Proof.Machine

/-- An admitted command is transmitted, and the frame it leaves as is its encoding (R52). -/
theorem exec_command (s : State) {i : Instr} (hf : i.format = .cmd) (hw : WellFormed i = true) :
    ∃ payload, encode s.cfg i = commandFrame s.cfg payload ∧ exec i s = .next (s.transmit payload) := by
  cases i with
  | setReportingMode a m => exact ⟨_, rfl, rfl⟩
  | query => exact ⟨_, rfl, rfl⟩
  | setDeviceId id => exact ⟨_, rfl, rfl⟩
  | setSleepWork a m => exact ⟨_, rfl, rfl⟩
  | setWorkingPeriod a period =>
    exact ⟨_, rfl, exec_setWorkingPeriod_of_le s a (of_decide_eq_true hw)⟩
  | getFirmwareVersion => exact ⟨_, rfl, rfl⟩
  | _ => cases hf

/-- The six kinds of R46 each offer a command, and R53 admits it by its period. -/
theorem commandOfPorts_of_admitted (p : PortsIn) (hk : p.cmdKind.toNat < 6)
    (hp : p.cmdKind = 4 → p.cmdPeriod.toNat ≤ periodMax) :
    ∃ i, commandOfPorts p = some i ∧ i.format = .cmd ∧ WellFormed i = true := by
  unfold commandOfPorts
  split_ifs with h0 h1 h2 h3 h4 h5
  · exact ⟨_, rfl, rfl, rfl⟩
  · exact ⟨_, rfl, rfl, rfl⟩
  · exact ⟨_, rfl, rfl, rfl⟩
  · exact ⟨_, rfl, rfl, rfl⟩
  · exact ⟨_, rfl, rfl, decide_eq_true (hp h4)⟩
  · exact ⟨_, rfl, rfl, rfl⟩
  · bv_omega

/-- The transmit side sends the encoding of an admitted command. -/
theorem transmitSide_of_admitted (p : PortsIn) (s : State) (hv : p.cmdValid = true)
    (hk : p.cmdKind.toNat < 6) (hp : p.cmdKind = 4 → p.cmdPeriod.toNat ≤ periodMax) :
    ∃ i payload, commandOfPorts p = some i ∧ encode s.cfg i = commandFrame s.cfg payload ∧
      transmitSide p s = .next (s.transmit payload) := by
  obtain ⟨i, hi, hf, hw⟩ := commandOfPorts_of_admitted p hk hp
  obtain ⟨payload, henc, hexec⟩ := exec_command s hf hw
  exact ⟨i, payload, hi, henc, by simp [transmitSide, hv, hi, hexec]⟩

/-- A step shows on the transmit ports and in the transmit stream what its transmit side gives (R26). -/
theorem step_of_transmitSide {s u : State} (h : transmitSide s.nextInput s.advance = .next u) :
    ∃ t, step s = .next t ∧ t.tx = u.tx ∧ t.sent = u.sent := by
  have hstep : step s = receiveSide s.nextInput u := by rw [step, bothSides, h, andThen_next]
  obtain ⟨-, -, htx, hsent⟩ := receiveSide_keepsTransmit u s.nextInput (receiveSide_eq _ u)
  exact ⟨_, hstep.trans (receiveSide_eq _ u), htx, hsent⟩

/-- Settles O50: the transmit side refuses an illegal kind, refuses a period above 30 of kind 4, or sends
the command's encoding, and the receive side leaves that as it is. -/
theorem admissionFollowsKindAndPeriod : Obligations.AdmissionFollowsKindAndPeriod := by
  unfold Obligations.AdmissionFollowsKindAndPeriod
  rintro s p rfl hv
  obtain ⟨hv', -⟩ | ⟨-, hk, hu⟩ | ⟨-, hk, hp, hu⟩ | ⟨-, hk, hp, -⟩ :=
    transmitSide_cases s.nextInput s.advance
  · simp [hv] at hv'
  · obtain ⟨t, ht, htx, hsent⟩ := step_of_transmitSide hu
    refine ⟨t, ht, fun _ => ?_, fun h4 => ?_, fun hlt => absurd hk (Nat.not_le.mpr hlt)⟩
    · rw [htx, hsent]
      exact ⟨rfl, rfl, rfl, rfl, rfl⟩
    · simp [h4] at hk
  · obtain ⟨t, ht, htx, hsent⟩ := step_of_transmitSide hu
    refine ⟨t, ht, fun h6 => ?_, fun _ _ => ?_, fun _ h30 => absurd (h30 hk) (Nat.not_le.mpr hp)⟩
    · simp [hk] at h6
    · rw [htx, hsent]
      exact ⟨rfl, rfl, rfl, rfl, rfl⟩
  · obtain ⟨i, payload, hi, henc, hu⟩ := transmitSide_of_admitted _ s.advance hv hk hp
    obtain ⟨t, ht, htx, hsent⟩ := step_of_transmitSide hu
    refine ⟨t, ht, fun h6 => absurd h6 (Nat.not_le.mpr hk),
      fun h4 h30 => absurd (hp h4) (Nat.not_le.mpr h30), fun _ _ => ?_⟩
    rw [htx, hsent]
    exact ⟨rfl, rfl, rfl, ⟨i, hi, henc.symm⟩, rfl⟩

/-! Working periods. -/

/-- The byte of an integer from 0 to 255 is that integer. -/
theorem toNat_ofInt_byte {v : Int} (h0 : 0 ≤ v) (h1 : v ≤ 255) :
    ((BitVec.ofInt 8 v).toNat : Int) = v := by
  rw [BitVec.toNat_ofInt]
  omega

/-- Settles O42: the range check, 0 and the rest, in the order of R61. -/
theorem workingPeriodsAreZeroToThirty : Obligations.WorkingPeriodsAreZeroToThirty := by
  unfold Obligations.WorkingPeriodsAreZeroToThirty workingPeriodOf
  have hmax : (periodMax : Int) = 30 := rfl
  refine fun v => ⟨fun hout => ?_, fun hzero => ?_, fun h1 h30 => ?_⟩
  · rw [if_pos (by rwa [hmax])]
  · rw [if_neg (by omega), if_pos hzero]
  · rw [if_neg (by omega), if_neg (by omega)]
    exact ⟨_, rfl, toNat_ofInt_byte (by omega) (by omega)⟩

end Sys2Proof.Machine
end

section
/-! SUPPORT. The frame accumulator on one step (R62 to R67): what a step without reset does to the receive
side, with a byte and without, and what the overflow arm does to the count and the ten registers. -/

namespace Sys2Proof.Machine

variable (s : State)

/-- A write of one of the ten registers leaves the other nine (R20), with the registers indexed as
in `State.readBuf`. -/
theorem getElem_set_of_ne (f : Frame) {i k : Fin 10} (v : Byte) (h : i ≠ k) :
    (f.set k v)[i] = f[i] :=
  Vector.getElem_set_ne k.isLt i.isLt (Fin.val_ne_of_ne h.symm)

/-! The step without reset. -/

/-- With no byte offered, a step leaves the receive side as it is (R62). -/
theorem step_of_noByte (hrst : s.nextInput.rst = false) (hrx : s.nextInput.rxValid = false) :
    ∃ u : State, step s = .next u.noEvent ∧ u.cfg = s.cfg ∧ u.count = s.count ∧ u.buf = s.buf ∧
      u.events = s.events := by
  obtain ⟨u, -, hcfg, -, hcount, hbuf, -, hevents, hstep⟩ := step_eq s
  exact ⟨u, by simpa [hrst, hrx] using hstep, hcfg, hcount, hbuf, hevents⟩

/-- With a byte offered, a step is the accumulator's step on it: what the transmit side leaves behind has the
same parameters, count, registers and events (R7, R26). -/
theorem step_of_byte (hrst : s.nextInput.rst = false) (hrx : s.nextInput.rxValid = true) :
    ∃ u : State, step s = .next (u.acceptByte s.nextInput.rxData) ∧ u.cfg = s.cfg ∧
      u.count = s.count ∧ u.buf = s.buf ∧ u.events = s.events := by
  obtain ⟨u, -, hcfg, -, hcount, hbuf, -, hevents, hstep⟩ := step_eq s
  exact ⟨u, by simpa [hrst, hrx] using hstep, hcfg, hcount, hbuf, hevents⟩

/-! The overflow arm (R67): the fields that do not depend on the byte, then those that do. -/

@[simp] theorem State.overflowByte_cfg (b : Byte) : (s.overflowByte b).cfg = s.cfg := by
  obtain ⟨-, h⟩ | ⟨-, h⟩ := s.overflowByte_cases b <;> simp [h]

@[simp] theorem State.overflowByte_evt (b : Byte) :
    (s.overflowByte b).evt = EventPorts.ofError .frameTooLong := by
  obtain ⟨-, h⟩ | ⟨-, h⟩ := s.overflowByte_cases b <;> simp [h]

@[simp] theorem State.overflowByte_events (b : Byte) :
    (s.overflowByte b).events = s.events ++ [.error .frameTooLong] := by
  obtain ⟨-, h⟩ | ⟨-, h⟩ := s.overflowByte_cases b <;> simp [h]

/-- A header that meets the overflow starts a frame. -/
theorem State.overflowByte_header (hw : s.cfg.LegalCount) :
    (s.overflowByte headMarker).count = 1 ∧
      (s.overflowByte headMarker).buf = s.buf.set 0 headMarker := by
  simp [State.overflowByte, Config.LegalCount.mod_eq hw]

/-- Any other byte that meets the overflow is dropped. -/
theorem State.overflowByte_noise {b : Byte} (hb : b ≠ headMarker) :
    (s.overflowByte b).count = 0 ∧ (s.overflowByte b).buf = s.buf := by
  simp [State.overflowByte, hb]

/-- The overflow arm touches no register but `buf[0]`. -/
theorem State.overflowByte_buf_of_ne (b : Byte) {i : Fin 10} (hi : i ≠ 0) :
    (s.overflowByte b).buf[i] = s.buf[i] := by
  obtain ⟨-, h⟩ | ⟨-, h⟩ := s.overflowByte_cases b
  · rw [h]
    exact getElem_set_of_ne s.buf b hi
  · rw [h, State.raiseError_buf]

/-! The statements. -/

/-- Settles O10: without a byte the receive side is what the transmit side left, which is what it was. -/
theorem noByteChangesNothing : Obligations.NoByteChangesNothing := by
  unfold Obligations.NoByteChangesNothing
  rintro s p rfl hrst hrx
  obtain ⟨u, hstep, hcfg, hcount, hbuf, hevents⟩ := step_of_noByte s hrst hrx
  exact ⟨_, hstep, hcount, fun i => by rw [State.noEvent_buf, hbuf], rfl, hevents, hcfg⟩

/-- Settles O13: at counts 1 to 8 the accumulator appends, and a counter of legal width holds the count after
it. -/
theorem byteInMidFrameIsAppended : Obligations.ByteInMidFrameIsAppended := by
  unfold Obligations.ByteInMidFrameIsAppended
  rintro s p rfl hrst hrx k h1 h8 hk hw
  obtain ⟨u, hstep, hcfg, hcount, hbuf, hevents⟩ := step_of_byte s hrst hrx
  rw [← hcount] at hk
  rw [u.acceptByte_append _ (by omega) (by omega)] at hstep
  refine ⟨_, hstep, ?_, ?_, fun i hi => ?_, rfl, hevents, hcfg⟩
  · rw [State.appendByte_count, hcfg, hk, Config.LegalCount.mod_eq hw (by omega)]
  · simp [hk]
  · simp only [State.appendByte_buf, hk, hbuf]
    exact getElem_set_of_ne s.buf _ hi

/-- Settles O14: at count 9 the accumulator completes the frame of the nine stored bytes and this one. -/
theorem tenthByteCompletesTheFrame : Obligations.TenthByteCompletesTheFrame := by
  unfold Obligations.TenthByteCompletesTheFrame
  rintro s p rfl hrst hrx h9
  obtain ⟨u, hstep, hcfg, hcount, hbuf, hevents⟩ := step_of_byte s hrst hrx
  have hframe : u.frameWith s.nextInput.rxData = s.buf.set 9 s.nextInput.rxData := by
    rw [State.frameWith, hbuf]
  have hlast : (s.buf.set 9 s.nextInput.rxData)[9] = s.nextInput.rxData := Vector.getElem_set_self _
  rw [u.acceptByte_tenth _ (hcount.trans h9), hframe] at hstep
  refine ⟨_, hstep, State.completeFrame_count .., ?_, fun i hi => ?_, ?_, ?_, ?_⟩
  · rw [State.completeFrame_buf, Vector.getElem_set_self, hlast]
  · rw [State.completeFrame_buf, hbuf, hlast]
    exact getElem_set_of_ne s.buf _ hi
  · rw [State.completeFrame_events, hevents, hcfg, frameEvent, frameResult]
  · rw [State.completeFrame_evt, hcfg, frameEvent, frameResult]
  · rw [State.completeFrame_cfg, hcfg]

/-- Settles O15: from an illegal count the accumulator raises `FrameTooLong`, and then the byte is a header,
which starts a frame, or noise. -/
theorem overflowReportsAndResynchronises : Obligations.OverflowReportsAndResynchronises := by
  unfold Obligations.OverflowReportsAndResynchronises
  rintro s p rfl hrst hrx h10 hw
  obtain ⟨u, hstep, hcfg, hcount, hbuf, hevents⟩ := step_of_byte s hrst hrx
  rw [u.acceptByte_overflow _ (hcount ▸ h10)] at hstep
  refine ⟨_, hstep, ?_, State.overflowByte_evt .., fun hb => ?_, fun hb => ?_, fun i hi => ?_, ?_⟩
  · rw [State.overflowByte_events, hevents]
  · obtain ⟨hcount', hbuf'⟩ := u.overflowByte_header (hcfg ▸ hw)
    rw [show s.nextInput.rxData = headMarker from hb]
    exact ⟨hcount', by rw [hbuf', Vector.getElem_set_self]; rfl⟩
  · obtain ⟨hcount', hbuf'⟩ := u.overflowByte_noise hb
    exact ⟨hcount', by rw [hbuf', hbuf]⟩
  · rw [u.overflowByte_buf_of_ne _ hi, hbuf]
  · rw [State.overflowByte_cfg, hcfg]

/-- Settles O11: `HEAD` at count 0 starts a frame, and a counter of legal width holds 1. -/
theorem headerWhileIdleStartsAFrame : Obligations.HeaderWhileIdleStartsAFrame := by
  unfold Obligations.HeaderWhileIdleStartsAFrame
  intro s hw h0
  have hexec : exec .head s = .next (s.startFrame headMarker) :=
    congrArg Host.Outcome.next (s.acceptByte_header h0)
  refine ⟨_, hexec, Config.LegalCount.mod_eq hw (by omega), Vector.getElem_set_self _, fun i hi => ?_,
    rfl, rfl, rfl, rfl, rfl, rfl⟩
  exact getElem_set_of_ne s.buf headMarker hi

/-- Settles O12: any other byte at count 0 is dropped, and only the event ports are driven. -/
theorem noiseWhileIdleIsDropped : Obligations.NoiseWhileIdleIsDropped := by
  unfold Obligations.NoiseWhileIdleIsDropped
  intro s b h0 hb
  have hexec : exec (.noise b) s = .next s.noEvent :=
    congrArg Host.Outcome.next (s.acceptByte_noise b h0 hb)
  exact ⟨_, hexec, h0, fun _ => rfl, rfl, rfl, rfl, rfl, rfl, rfl⟩

end Sys2Proof.Machine
end

section
/-! SUPPORT. The checks before classification (R72 to R74), the two readings of R38's table row by row, and
what the completion of a frame reports on the events and the ports (R66, R85, R89). -/

namespace Sys2Proof.Machine

variable (s : State) (c : Config) {f : Frame}

/-! The checks. -/

/-- The 16-bit comparison of R49 is the one in unbounded arithmetic. -/
theorem checksumValid_iff : checksumValid f = true ↔ SumMatches f := by
  rw [checksumValid, beq_iff_eq, ← BitVec.toNat_inj, checksum_toNat]
  simp [checkedSpan, SumMatches, Nat.add_assoc]

theorem frameCheck_of_wrongTail (hcheck : c.tailCheck = true) (htail : f[9] ≠ c.tail) :
    frameCheck c f = some .badTail :=
  if_pos ⟨hcheck, htail⟩

theorem frameCheck_of_tailPasses (htail : TailPasses c f) :
    frameCheck c f = if checksumValid f then none else some .checksumMismatch :=
  if_neg fun h => h.2 (htail h.1)

theorem frameCheck_of_wrongSum (htail : TailPasses c f) (hsum : ¬SumMatches f) :
    frameCheck c f = some .checksumMismatch := by
  rw [frameCheck_of_tailPasses c htail, if_neg (checksumValid_iff.not.mpr hsum)]

theorem frameCheck_of_good (hsum : SumMatches f) (htail : TailPasses c f) : frameCheck c f = none := by
  rw [frameCheck_of_tailPasses c htail, if_pos (checksumValid_iff.mpr hsum)]

theorem afterChecks_of_failing {cause : Cause} (h : frameCheck c f = some cause)
    (classified : Except Cause Response) : afterChecks c f classified = .error cause := by
  rw [afterChecks, h]

theorem afterChecks_of_passing (h : frameCheck c f = none) (classified : Except Cause Response) :
    afterChecks c f classified = classified := by
  rw [afterChecks, h]

/-! The tail byte stands outside the checked span and outside every field. -/

@[simp] theorem checksumValid_set_tail (v : Byte) : checksumValid (f.set 9 v) = checksumValid f := by
  simp [checksumValid, checkedSpan]

@[simp] theorem classify_set_tail (v : Byte) : classify (f.set 9 v) = classify f := by
  simp [classify]

/-- With the tail not enforced, the checks do not read it (R73). -/
theorem frameCheck_set_tail (hcheck : c.tailCheck = false) (v : Byte) :
    frameCheck c (f.set 9 v) = frameCheck c f := by
  have hpasses : ∀ g : Frame, TailPasses c g := fun g h => absurd h (by simp [hcheck])
  rw [frameCheck_of_tailPasses c (hpasses _), frameCheck_of_tailPasses c (hpasses _),
    checksumValid_set_tail]

theorem frameResult_set_tail (hcheck : c.tailCheck = false) (v : Byte) :
    frameResult c (f.set 9 v) = frameResult c f := by
  simp only [frameResult, afterChecks, frameCheck_set_tail c hcheck, classify_set_tail]

/-! R38's table: the operation of each row beside the response that R75 dispatches to. -/

theorem dispatch_query (h1 : f[1] = rspData) :
    decodeFrame f = .queryResponse (le16 f[2] f[3]) (le16 f[4] f[5]) (deviceOf f) (envelopeOf f) ∧
      classify f = .ok (.query (le16 f[2] f[3]) (le16 f[4] f[5]) (deviceOf f)) :=
  ⟨if_pos h1, if_pos h1⟩

section
variable (h1 : f[1] = rspReply)
include h1

theorem dispatch_reportingMode (h2 : f[2] = rspReportingMode) :
    decodeFrame f = .setReportingModeResponse f[3] f[4] f[5] (deviceOf f) (envelopeOf f) ∧
      classify f = .ok (.setReportingMode f[3] f[4] (deviceOf f)) := by
  simp +decide [decodeFrame, classify, deviceOf, h1, h2]

theorem dispatch_deviceId (h2 : f[2] = rspDeviceId) :
    decodeFrame f = .setDeviceIdResponse f[3] f[4] f[5] (deviceOf f) (envelopeOf f) ∧
      classify f = .ok (.setDeviceId (deviceOf f)) := by
  simp +decide [decodeFrame, classify, deviceOf, h1, h2]

theorem dispatch_sleepWork (h2 : f[2] = rspSleepWork) :
    decodeFrame f = .setSleepWorkResponse f[3] f[4] f[5] (deviceOf f) (envelopeOf f) ∧
      classify f = .ok (.setSleepWork f[3] f[4] (deviceOf f)) := by
  simp +decide [decodeFrame, classify, deviceOf, h1, h2]

theorem dispatch_workingPeriod (h2 : f[2] = rspWorkingPeriod) :
    decodeFrame f = .setWorkingPeriodResponse f[3] f[4] f[5] (deviceOf f) (envelopeOf f) ∧
      classify f = .ok (.setWorkingPeriod f[3] f[4] (deviceOf f)) := by
  simp +decide [decodeFrame, classify, deviceOf, h1, h2]

theorem dispatch_firmware (h2 : f[2] = rspFirmware) :
    decodeFrame f = .getFirmwareVersionResponse f[3] f[4] f[5] (deviceOf f) (envelopeOf f) ∧
      classify f = .ok (.getFirmwareVersion f[3] f[4] f[5] (deviceOf f)) := by
  simp +decide [decodeFrame, classify, deviceOf, h1, h2]

end

/-- The default row: the pair is not in the table (R82). -/
theorem dispatch_unknown (h1 : f[1] ≠ rspData)
    (hpair : ¬(f[1] = rspReply ∧
      f[2] ∈ [rspReportingMode, rspDeviceId, rspSleepWork, rspWorkingPeriod, rspFirmware])) :
    decodeFrame f = .unknownCommand f[1] f[2] f[3] f[4] f[5] (deviceOf f) (envelopeOf f) ∧
      classify f = .error .unknownCommand := by
  have hrow : f[1] = rspReply → f[2] ≠ rspReportingMode ∧ f[2] ≠ rspDeviceId ∧ f[2] ≠ rspSleepWork ∧
      f[2] ≠ rspWorkingPeriod ∧ f[2] ≠ rspFirmware := by simpa using hpair
  by_cases hreply : f[1] = rspReply
  · obtain ⟨h2, h5, h6, h8, h7⟩ := hrow hreply
    simp +decide [decodeFrame, classify, hreply, h2, h5, h6, h8, h7]
  · simp [decodeFrame, classify, h1, hreply]

/-! What a completed frame reports. -/

/-- A completed frame is reported as its result, with the full effect of R66. -/
theorem State.completeFrame_afterFrame (classified : Except Cause Response) :
    s.AfterFrame (s.completeFrame f classified) f[9] (eventOf (afterChecks s.cfg f classified))
      (portsOfEvent f (eventOf (afterChecks s.cfg f classified))) := by
  refine ⟨s.completeFrame_count f _, ?_, fun i hi => ?_, s.completeFrame_evt f _,
    s.completeFrame_events f _, s.completeFrame_keepsTransmit f _⟩
  · rw [State.completeFrame_buf, Vector.getElem_set_self]
  · rw [State.completeFrame_buf]
    exact getElem_set_of_ne s.buf _ hi

/-- The operation of a frame that passes the checks reports the frame's classification (R72). -/
theorem exec_of_good {i : Instr} {classified : Except Cause Response} (hi : decodeFrame f = i)
    (hc : classify f = classified) (hsum : SumMatches f) (htail : TailPasses s.cfg f) :
    ∃ t, exec i s = .next t ∧
      s.AfterFrame t f[9] (eventOf classified) (portsOfEvent f (eventOf classified)) := by
  have hafter := s.completeFrame_afterFrame (f := f) classified
  rw [afterChecks_of_passing _ (frameCheck_of_good _ hsum htail)] at hafter
  exact ⟨_, by rw [← hi, exec_decodeFrame, hc], hafter⟩

/-- The tenth byte of a frame that fails a check gives the first failing check's error, whatever the frame's
class (R72, R88). -/
theorem receiveSide_of_failing {p : PortsIn} {cause : Cause} (h9 : s.count = 9) (hrst : p.rst = false)
    (hrx : p.rxValid = true) (hf : s.buf.set 9 p.rxData = f) (hcheck : frameCheck s.cfg f = some cause) :
    ∃ t, receiveSide p s = .next t ∧ s.AfterFrame t f[9] (.error cause) (EventPorts.ofError cause) := by
  have hafter := s.completeFrame_afterFrame (f := f) (classify f)
  rw [afterChecks_of_failing _ hcheck] at hafter
  exact ⟨_, by rw [receiveSide_tenth p s h9 hrst hrx, State.frameWith, hf], hafter⟩

end Sys2Proof.Machine
end

section
/-! SUPPORT. The fields of a response in plain arithmetic (R32, R33, R84) and the views of its raw bytes
(R36, R83). -/

namespace Sys2Proof.Machine

variable (raw : Byte)

theorem le16_toNat (a b : Byte) : (le16 a b).toNat = a.toNat + 256 * b.toNat := by
  rw [le16_eq_be16, be16_toNat, Nat.add_comm]

theorem deviceOf_toNat (f : Frame) : (deviceOf f).toNat = 256 * f[6].toNat + f[7].toNat :=
  be16_toNat _ _

theorem microgramsPerCubicMetre_mul_ten (reading : Half) :
    microgramsPerCubicMetre reading * 10 = (reading.toNat : Rat) :=
  div_mul_cancel₀ _ (by decide)

theorem queryView_iff : queryView raw = true ↔ raw = 0x00 := beq_iff_eq

/-- The shape that both mode views have: 0x00 and 0x01 are the two modes, every other byte is reserved (R35). -/
def modeView {α : Type} (zero one : α) (raw : Byte) : ModeView α :=
  if raw = 0x00 then .legal zero else if raw = 0x01 then .legal one else .reserved raw

theorem reportingModeView_eq : reportingModeView raw = modeView .active .query raw := rfl

theorem sleepWorkView_eq : sleepWorkView raw = modeView .sleep .work raw := rfl

section
variable {α : Type} {zero one : α}

theorem modeView_zero_iff (hne : zero ≠ one) : modeView zero one raw = .legal zero ↔ raw = 0x00 := by
  unfold modeView
  split_ifs with h0 h1
  · exact iff_of_true rfl h0
  · exact iff_of_false (fun h => hne (ModeView.legal.inj h).symm) h0
  · exact iff_of_false (fun h => nomatch h) h0

theorem modeView_one_iff (hne : zero ≠ one) : modeView zero one raw = .legal one ↔ raw = 0x01 := by
  unfold modeView
  split_ifs with h0 h1
  · exact iff_of_false (fun h => hne (ModeView.legal.inj h)) (by rw [h0]; decide)
  · exact iff_of_true rfl h1
  · exact iff_of_false (fun h => nomatch h) h1

theorem modeView_reserved (h : 2 ≤ raw.toNat) : modeView zero one raw = .reserved raw := by
  have h0 : raw ≠ 0x00 := by rintro rfl; simp at h
  have h1 : raw ≠ 0x01 := by rintro rfl; simp at h
  exact (if_neg h0).trans (if_neg h1)

end

theorem reportingModeView_active_iff : reportingModeView raw = .legal .active ↔ raw = 0x00 := by
  rw [reportingModeView_eq, modeView_zero_iff _ (by decide)]

theorem reportingModeView_query_iff : reportingModeView raw = .legal .query ↔ raw = 0x01 := by
  rw [reportingModeView_eq, modeView_one_iff _ (by decide)]

theorem sleepWorkView_sleep_iff : sleepWorkView raw = .legal .sleep ↔ raw = 0x00 := by
  rw [sleepWorkView_eq, modeView_zero_iff _ (by decide)]

theorem sleepWorkView_work_iff : sleepWorkView raw = .legal .work ↔ raw = 0x01 := by
  rw [sleepWorkView_eq, modeView_one_iff _ (by decide)]

theorem ofRaw_continuous_iff : WorkingPeriod.ofRaw raw = .continuous ↔ raw = 0x00 := by
  unfold WorkingPeriod.ofRaw
  split_ifs with h0
  · exact iff_of_true rfl h0
  · exact iff_of_false (by simp) h0

theorem ofRaw_periodic (h : raw ≠ 0x00) : WorkingPeriod.ofRaw raw = .periodic raw := if_neg h

/-- Settles O41: the equation of each view, case by case. -/
theorem viewsOfRawFields : Obligations.ViewsOfRawFields := by
  unfold Obligations.ViewsOfRawFields
  exact fun raw => ⟨queryView_iff raw, reportingModeView_active_iff raw, reportingModeView_query_iff raw,
    modeView_reserved raw, sleepWorkView_sleep_iff raw, sleepWorkView_work_iff raw,
    modeView_reserved raw, ofRaw_continuous_iff raw, ofRaw_periodic raw⟩

end Sys2Proof.Machine
end

section
/-! SUPPORT. The response decoder (R73, R74, R76 to R82): each class of a good frame, an unknown pair, and a
frame that fails a check. -/

namespace Sys2Proof.Machine

/-- Settles O32: the row of 0xC0, whose two readings are little-endian. -/
theorem goodQueryResponseIsReported : Obligations.GoodQueryResponseIsReported := by
  unfold Obligations.GoodQueryResponseIsReported
  intro s f _ _ h1 hsum htail
  obtain ⟨hi, hr⟩ := dispatch_query h1
  obtain ⟨t, hexec, hafter⟩ := exec_of_good s hi hr hsum htail
  exact ⟨_, _, _, t, hi, le16_toNat _ _, le16_toNat _ _, deviceOf_toNat f, hexec, hafter,
    microgramsPerCubicMetre_mul_ten _, microgramsPerCubicMetre_mul_ten _⟩

/-- Settles O33: the row of the pair (0xC5, 0x02), and the views of its flag and mode. -/
theorem goodReportingModeResponseIsReported : Obligations.GoodReportingModeResponseIsReported := by
  unfold Obligations.GoodReportingModeResponseIsReported
  intro s f _ _ h1 h2 hsum htail
  obtain ⟨hi, hr⟩ := dispatch_reportingMode h1 h2
  obtain ⟨t, hexec, hafter⟩ := exec_of_good s hi hr hsum htail
  exact ⟨_, t, hi, deviceOf_toNat f, hexec, h2 ▸ hafter, queryView_iff _,
    reportingModeView_active_iff _, reportingModeView_query_iff _⟩

/-- Settles O34: the row of the pair (0xC5, 0x05), whose only field is the device id. -/
theorem goodDeviceIdResponseIsReported : Obligations.GoodDeviceIdResponseIsReported := by
  unfold Obligations.GoodDeviceIdResponseIsReported
  intro s f _ _ h1 h2 hsum htail
  obtain ⟨hi, hr⟩ := dispatch_deviceId h1 h2
  obtain ⟨t, hexec, hafter⟩ := exec_of_good s hi hr hsum htail
  exact ⟨_, t, hi, deviceOf_toNat f, hexec, h2 ▸ hafter⟩

/-- Settles O35: the row of the pair (0xC5, 0x06), and the views of its flag and mode. -/
theorem goodSleepWorkResponseIsReported : Obligations.GoodSleepWorkResponseIsReported := by
  unfold Obligations.GoodSleepWorkResponseIsReported
  intro s f _ _ h1 h2 hsum htail
  obtain ⟨hi, hr⟩ := dispatch_sleepWork h1 h2
  obtain ⟨t, hexec, hafter⟩ := exec_of_good s hi hr hsum htail
  exact ⟨_, t, hi, deviceOf_toNat f, hexec, h2 ▸ hafter, queryView_iff _,
    sleepWorkView_sleep_iff _, sleepWorkView_work_iff _⟩

/-- Settles O36: the row of the pair (0xC5, 0x08), whose period byte is mapped as R36 says. -/
theorem goodWorkingPeriodResponseIsReported : Obligations.GoodWorkingPeriodResponseIsReported := by
  unfold Obligations.GoodWorkingPeriodResponseIsReported
  intro s f _ _ h1 h2 hsum htail
  obtain ⟨hi, hr⟩ := dispatch_workingPeriod h1 h2
  obtain ⟨t, hexec, hafter⟩ := exec_of_good s hi hr hsum htail
  exact ⟨_, t, hi, deviceOf_toNat f, hexec, h2 ▸ hafter, queryView_iff _, rfl⟩

/-- Settles O37: the row of the pair (0xC5, 0x07), whose three fields are raw bytes. -/
theorem goodFirmwareVersionResponseIsReported : Obligations.GoodFirmwareVersionResponseIsReported := by
  unfold Obligations.GoodFirmwareVersionResponseIsReported
  intro s f _ _ h1 h2 hsum htail
  obtain ⟨hi, hr⟩ := dispatch_firmware h1 h2
  obtain ⟨t, hexec, hafter⟩ := exec_of_good s hi hr hsum htail
  exact ⟨_, t, hi, deviceOf_toNat f, hexec, h2 ▸ hafter⟩

/-- Settles O38: a pair outside the table takes the default row, whose classification is the error. -/
theorem unknownPairIsReported : Obligations.UnknownPairIsReported := by
  unfold Obligations.UnknownPairIsReported
  intro s f _ _ h1 hpair hsum htail
  obtain ⟨hi, hr⟩ := dispatch_unknown h1 hpair
  obtain ⟨t, hexec, hafter⟩ := exec_of_good s hi hr hsum htail
  exact ⟨_, t, hi, hexec, hafter⟩

/-- Settles O39: with the tail check passed, the checksum is the first check to fail. -/
theorem wrongChecksumIsReported : Obligations.WrongChecksumIsReported := by
  unfold Obligations.WrongChecksumIsReported
  intro s p f h9 hrst hrx hf htail hsum
  exact receiveSide_of_failing s h9 hrst hrx hf (frameCheck_of_wrongSum _ htail hsum)

/-- Settles O40: an enforced tail is the first check of all, and one not enforced is not read. -/
theorem wrongTailIsReportedFirst : Obligations.WrongTailIsReportedFirst := by
  unfold Obligations.WrongTailIsReportedFirst
  refine ⟨rfl, rfl, fun s p f h9 hrst hrx hf hcheck htail => ?_, fun c f v hcheck => ?_⟩
  · exact receiveSide_of_failing s h9 hrst hrx hf (frameCheck_of_wrongTail _ hcheck htail)
  · exact frameResult_set_tail c hcheck v

end Sys2Proof.Machine
end

section
/-! SUPPORT. A step with reset (R99): it ends in the cleared receive side over what the transmit side gives,
and the transmit side does not read `rst`. -/

namespace Sys2Proof.Machine

/-- The transmit side does not read the reset port (R99). -/
theorem transmitSide_rst (p : PortsIn) (s : State) (v : Bool) :
    transmitSide { p with rst := v } s = transmitSide p s := rfl

/-- With reset asserted, a step is the receive side's reset of what the transmit side leaves behind, whatever
byte is offered (R99). -/
theorem step_of_reset (s : State) (hrst : s.nextInput.rst = true) :
    ∃ u : State, transmitSide s.nextInput s.advance = .next u ∧ step s = .next u.resetReceive ∧
      u.cfg = s.cfg ∧ u.events = s.events := by
  obtain ⟨u, htransmit, hcfg, -, -, -, -, hevents, hstep⟩ := step_eq s
  exact ⟨u, htransmit, by simpa [hrst] using hstep, hcfg, hevents⟩

/-- Settles O17: reset clears the receive side of the transmit side's state, and that state is the same with
`rst` at 0. -/
theorem resetClearsTheReceiveSideOnly : Obligations.ResetClearsTheReceiveSideOnly := by
  unfold Obligations.ResetClearsTheReceiveSideOnly
  rintro s p rfl hrst
  obtain ⟨u, htransmit, hstep, hcfg, hevents⟩ := step_of_reset s hrst
  have hregs : ∀ i : Fin 10, u.resetReceive.buf[i] = 0x00 := fun i => Vector.getElem_replicate i.isLt
  exact ⟨_, u, hstep, State.resetReceive_count u, hregs, State.resetReceive_evt u, hevents, hcfg,
    (transmitSide_rst _ _ false).trans htransmit, State.resetReceive_tx u, State.resetReceive_sent u⟩

end Sys2Proof.Machine
end

section
/-! SUPPORT. What a step does to the parameters, the count and the events (R4, R10, R13): the accumulator's step on
a byte in each of its arms, then the step. -/

namespace Sys2Proof.Machine

variable (s : State)

/-! The accumulator's step on a byte. -/

/-- The accumulator leaves the count alone or writes a value of at most 9 through its width (R10). -/
theorem State.acceptByte_count_cases (b : Byte) :
    (s.acceptByte b).count = s.count ∨
      ∃ v ≤ 9, (s.acceptByte b).count = v % 2 ^ s.cfg.countWidth := by
  obtain ⟨-, -, h⟩ | ⟨-, -, h⟩ | ⟨-, h8, h⟩ | ⟨-, h⟩ | ⟨-, h⟩ := s.acceptByte_cases b
  · exact .inr ⟨1, by omega, by rw [h, State.startFrame_count]⟩
  · exact .inl (by rw [h, State.noEvent_count])
  · exact .inr ⟨s.count + 1, by omega, by rw [h, State.appendByte_count]⟩
  · exact .inr ⟨0, by omega, by simp [h]⟩
  · obtain ⟨-, h'⟩ | ⟨-, h'⟩ := s.overflowByte_cases b
    · exact .inr ⟨1, by omega, by simp [h, h']⟩
    · exact .inr ⟨0, by omega, by simp [h, h']⟩

/-- Items a and b of R13: the byte that takes the count from 0 is `HEAD`, stored in `buf[0]`, and every later byte
of the frame is stored above it. -/
theorem State.Legal.acceptByte {s : State} (hs : s.Legal) (b : Byte) : (s.acceptByte b).Legal := by
  obtain ⟨h9, hhead⟩ := hs
  obtain ⟨-, hb, h⟩ | ⟨-, -, h⟩ | ⟨h0, h8, h⟩ | ⟨-, h⟩ | ⟨h10, -⟩ := s.acceptByte_cases b
  · have hcount : 1 % 2 ^ s.cfg.countWidth ≤ 1 := Nat.mod_le _ _
    refine ⟨by rw [h, State.startFrame_count]; omega, fun _ => ?_⟩
    rw [h, State.startFrame_buf, Vector.getElem_set_self, hb]
  · rw [h]
    exact ⟨h9, hhead⟩
  · have hcount : (s.count + 1) % 2 ^ s.cfg.countWidth ≤ s.count + 1 := Nat.mod_le _ _
    refine ⟨by rw [h, State.appendByte_count]; omega, fun _ => ?_⟩
    rw [h, State.appendByte_buf, ← hhead (by omega)]
    exact Vector.getElem_set_ne _ _ h0
  · exact ⟨by simp [h], by simp [h]⟩
  · omega

/-- From a legal count the accumulator gives no event and counts at most the byte, or gives one event, not
`FrameTooLong`, at count 9 and returns to 0 (items c and e of R13). -/
theorem State.acceptByte_of_legalCount (h9 : s.count ≤ 9) (b : Byte) :
    ((s.acceptByte b).events = s.events ∧ (s.acceptByte b).count ≤ s.count + 1) ∨
    (s.count = 9 ∧ (s.acceptByte b).count = 0 ∧
      ∃ e, e ≠ Event.error .frameTooLong ∧ (s.acceptByte b).events = s.events ++ [e]) := by
  obtain ⟨-, -, h⟩ | ⟨-, -, h⟩ | ⟨-, h8, h⟩ | ⟨hc, h⟩ | ⟨h10, -⟩ := s.acceptByte_cases b
  · have hcount : 1 % 2 ^ s.cfg.countWidth ≤ 1 := Nat.mod_le _ _
    exact .inl ⟨by rw [h, State.startFrame_events], by rw [h, State.startFrame_count]; omega⟩
  · exact .inl ⟨by rw [h, State.noEvent_events], by rw [h, State.noEvent_count]; omega⟩
  · exact .inl ⟨by rw [h, State.appendByte_events],
      by rw [h, State.appendByte_count]; exact Nat.mod_le _ _⟩
  · refine .inr ⟨hc, by simp [h], _, ?_, by rw [h, State.completeFrame_events]⟩
    have hresult := afterChecks_ne_frameTooLong (s.frameWith b) _ s.cfg
      (classify_ne_frameTooLong (s.frameWith b))
    generalize afterChecks s.cfg (s.frameWith b) (classify (s.frameWith b)) = result at hresult
    cases result with
    | ok r => simp [eventOf]
    | error cause => simpa [eventOf] using hresult
  · omega

/-! The step. -/

/-- What a step does to the receive side's count, registers and events: reset, no byte, or the accumulator's
step on the byte, from a state `u` that differs from `s` in its transmit side and waiting inputs only. -/
theorem step_receive_cases {t : State} (h : step s = .next t) :
    ∃ u : State, u.cfg = s.cfg ∧ u.inputs = s.inputs.tail ∧ u.count = s.count ∧ u.buf = s.buf ∧
      u.events = s.events ∧
      ((s.nextInput.rst = true ∧ t = u.resetReceive) ∨
        (s.nextInput.rst = false ∧ s.nextInput.rxValid = false ∧ t = u.noEvent) ∨
        (s.nextInput.rst = false ∧ s.nextInput.rxValid = true ∧
          t = u.acceptByte s.nextInput.rxData)) := by
  obtain ⟨u, -, hcfg, hinputs, hcount, hbuf, -, hevents, hstep⟩ := step_eq s
  refine ⟨u, hcfg, hinputs, hcount, hbuf, hevents, ?_⟩
  obtain rfl := Host.Outcome.next.inj (hstep.symm.trans h)
  cases hrst : s.nextInput.rst
  · cases hrx : s.nextInput.rxValid
    · exact .inr (.inl ⟨rfl, rfl, by simp⟩)
    · exact .inr (.inr ⟨rfl, rfl, by simp⟩)
  · exact .inl ⟨rfl, by simp⟩

/-- Settles O7: the transmit side ends in a next state, and so does the receive side after it. -/
theorem everyStepEndsInANextState : Obligations.EveryStepEndsInANextState := by
  unfold Obligations.EveryStepEndsInANextState
  intro s
  obtain ⟨u, -, -, -, -, -, -, -, hstep⟩ := step_eq s
  exact ⟨_, hstep⟩

/-- Settles O9: the transmit side takes the record, and none of the receive side's cases touches the parameters
or the waiting inputs. -/
theorem stepKeepsTheParameters : Obligations.StepKeepsTheParameters := by
  unfold Obligations.StepKeepsTheParameters
  intro s t h
  obtain ⟨u, hcfg, hinputs, -, -, -, hcases⟩ := step_receive_cases s h
  rw [← hcfg, ← hinputs]
  obtain ⟨-, rfl⟩ | ⟨-, -, rfl⟩ | ⟨-, -, rfl⟩ := hcases
  · exact ⟨rfl, rfl⟩
  · exact ⟨rfl, rfl⟩
  · obtain ⟨hc, hi, -⟩ := u.acceptByte_keepsTransmit s.nextInput.rxData
    exact ⟨hc, hi⟩

/-- Settles O19: reset leaves the count at 0, a step without a byte leaves the receive side alone, and the
accumulator keeps the invariant. -/
theorem legalStatesStayLegal : Obligations.LegalStatesStayLegal := by
  unfold Obligations.LegalStatesStayLegal
  intro s t hs h
  obtain ⟨u, -, -, hcount, hbuf, -, hcases⟩ := step_receive_cases s h
  have hu : u.Legal := by rwa [State.Legal, hcount, hbuf]
  obtain ⟨-, rfl⟩ | ⟨-, -, rfl⟩ | ⟨-, -, rfl⟩ := hcases
  · exact ⟨by simp, by simp⟩
  · exact hu
  · exact hu.acceptByte _

/-- The bytes of one record of inputs: one if a byte is offered without reset (R99). -/
theorem offeredBytes_singleton (p : PortsIn) :
    offeredBytes [p] = if p.rst = false ∧ p.rxValid = true then 1 else 0 := by
  cases hr : p.rst <;> cases hv : p.rxValid <;> simp [offeredBytes, hr, hv]

/-- Settles O54: only an offered byte raises the count, by one at most, and an event takes it from 9 to 0. -/
theorem everyEventIsPaidForWithTenBytes : Obligations.EveryEventIsPaidForWithTenBytes := by
  unfold Obligations.EveryEventIsPaidForWithTenBytes
  intro s t h9 h
  obtain ⟨u, -, -, hcount, -, hevents, hcases⟩ := step_receive_cases s h
  obtain ⟨-, rfl⟩ | ⟨-, -, rfl⟩ | ⟨hrst, hrx, rfl⟩ := hcases
  · exact ⟨[], by simp [hevents], by simp⟩
  · exact ⟨[], by simp [hevents], by simp [hcount]⟩
  · rw [offeredBytes_singleton, if_pos ⟨hrst, hrx⟩, ← hcount, ← hevents]
    obtain ⟨hes, hle⟩ | ⟨hc, h0, e, -, hes⟩ :=
      u.acceptByte_of_legalCount (hcount ▸ h9) s.nextInput.rxData
    · exact ⟨[], by simpa using hes, by simpa using hle⟩
    · exact ⟨[e], hes, by simp [hc, h0]⟩

/-- Settles O20: of the step's cases only the tenth byte gives an event. -/
theorem legalCountsNeverOverflow : Obligations.LegalCountsNeverOverflow := by
  unfold Obligations.LegalCountsNeverOverflow
  intro s t h9 h
  obtain ⟨u, -, -, hcount, -, hevents, hcases⟩ := step_receive_cases s h
  obtain ⟨-, rfl⟩ | ⟨-, -, rfl⟩ | ⟨hrst, hrx, rfl⟩ := hcases
  · exact .inl hevents
  · exact .inl hevents
  · rw [← hcount, ← hevents]
    obtain ⟨hes, -⟩ | ⟨hc, -, he⟩ := u.acceptByte_of_legalCount (hcount ▸ h9) s.nextInput.rxData
    · exact .inl hes
    · exact .inr ⟨hc, hrst, hrx, he⟩

/-- The new count of a step: the old one, or a value of at most 9 written through the width. -/
theorem step_count_cases {t : State} (h : step s = .next t) :
    t.count = s.count ∨ ∃ v ≤ 9, t.count = v % 2 ^ s.cfg.countWidth := by
  obtain ⟨u, hcfg, -, hcount, -, -, hcases⟩ := step_receive_cases s h
  rw [← hcount, ← hcfg]
  obtain ⟨-, rfl⟩ | ⟨-, -, rfl⟩ | ⟨-, -, rfl⟩ := hcases
  · exact .inr ⟨0, by omega, by simp⟩
  · exact .inl rfl
  · exact u.acceptByte_count_cases _

/-- Settles O56: what is written through a width fits it. -/
theorem countStaysWithinItsWidth : Obligations.CountStaysWithinItsWidth := by
  unfold Obligations.CountStaysWithinItsWidth
  intro s t hfits h
  obtain ⟨hcfg, -⟩ := stepKeepsTheParameters s t h
  rw [State.CountFits, hcfg]
  obtain hc | ⟨v, hv, hc⟩ := step_count_cases s h
  · rw [hc]
    exact ⟨hfits, .inl rfl⟩
  · rw [hc]
    exact ⟨Nat.mod_lt _ (Nat.two_pow_pos _), .inr ((Nat.mod_le _ _).trans hv)⟩

end Sys2Proof.Machine
end

section
/-! SUPPORT. Runs of steps: the event rate (R13 e), a frame after noise (R69), and the way back to a legal state
from any state (R101). -/

namespace Sys2Proof.Machine

/-! Runs of a machine, by their first and by their last step. -/

section
variable {M : Host.Core} {s t : M.State}

theorem run_succ_of_step (h : M.step s = .next t) (n : Nat) : M.run (n + 1) s = M.run n t := by
  simp only [Host.Core.run, h]

theorem run_succ_of_run {n : Nat} (h : M.run n s = .next t) : M.run (n + 1) s = M.step t := by
  induction n generalizing s with
  | zero =>
    obtain rfl : s = t := Host.Outcome.next.inj h
    cases hs : M.step s <;> simp only [Host.Core.run, hs]
  | succ n ih =>
    cases hs : M.step s with
    | next u =>
      rw [run_succ_of_step hs] at h ⊢
      exact ih h
    | fault r => simp [Host.Core.run, hs] at h
    | refused r => simp [Host.Core.run, hs] at h

end

variable {s t : State}

/-! The event rate. -/

/-- The bytes offered in `n + 1` steps are those of the first and those of the rest; when no input is waiting,
none (log 7). -/
theorem offeredBytes_take_succ (n : Nat) (s : State) :
    offeredBytes (s.inputs.take (n + 1)) =
      offeredBytes [s.nextInput] + offeredBytes (s.inputs.tail.take n) := by
  unfold State.nextInput
  cases s.inputs with
  | nil => simp [offeredBytes, PortsIn.idle]
  | cons p ps => simp [offeredBytes, List.countP_cons, Nat.add_comm]

/-- O54 along a run: the count at the end of each step is what the next step starts from. -/
theorem run_events_paid (n : Nat) (h9 : s.count ≤ 9) (h : core.run n s = .next t) :
    ∃ es, t.events = s.events ++ es ∧
      10 * es.length + t.count ≤ s.count + offeredBytes (s.inputs.take n) := by
  induction n generalizing s with
  | zero =>
    obtain rfl : s = t := Host.Outcome.next.inj h
    exact ⟨[], by simp, by simp⟩
  | succ n ih =>
    obtain ⟨u, hu⟩ := everyStepEndsInANextState s
    rw [run_succ_of_step (M := core) hu] at h
    obtain ⟨es, hes, hpaid⟩ := everyEventIsPaidForWithTenBytes s u h9 hu
    obtain ⟨-, hinputs⟩ := stepKeepsTheParameters s u hu
    have hu9 : u.count ≤ 9 := by
      obtain hc | ⟨v, hv, hc⟩ := step_count_cases s hu
      · omega
      · exact hc ▸ (Nat.mod_le _ _).trans hv
    obtain ⟨es', hes', hpaid'⟩ := ih hu9 h
    rw [offeredBytes_take_succ, ← hinputs]
    exact ⟨es ++ es', by rw [hes', hes, List.append_assoc], by simp; omega⟩

/-- Settles O21: from count 0 the bytes offered pay for the events alone. -/
theorem eventsAreAtMostATenthOfTheBytes : Obligations.EventsAreAtMostATenthOfTheBytes := by
  unfold Obligations.EventsAreAtMostATenthOfTheBytes
  intro n s t h0 h
  obtain ⟨es, hes, hpaid⟩ := run_events_paid n (by omega) h
  exact ⟨es, hes, by omega⟩

/-! Bytes offered one a step. -/

/-- A step that offers a byte and nothing else is the accumulator's step on it, and takes it from the waiting
inputs. -/
theorem step_of_offered_byte {b : Byte} {ps : List PortsIn} (h : s.inputs = PortsIn.byte b :: ps) :
    ∃ u : State, step s = .next (u.acceptByte b) ∧ u.cfg = s.cfg ∧ u.count = s.count ∧ u.buf = s.buf ∧
      u.events = s.events ∧ (u.acceptByte b).cfg = s.cfg ∧ (u.acceptByte b).inputs = ps := by
  have hnext : s.nextInput = PortsIn.byte b := by rw [State.nextInput, h, List.headD_cons]
  obtain ⟨u, hstep, hcfg, hcount, hbuf, hevents⟩ :=
    step_of_byte s (by rw [hnext]; rfl) (by rw [hnext]; rfl)
  rw [hnext, show (PortsIn.byte b).rxData = b from rfl] at hstep
  obtain ⟨hcfg', hinputs⟩ := stepKeepsTheParameters _ _ hstep
  exact ⟨u, hstep, hcfg, hcount, hbuf, hevents, hcfg', by rw [hinputs, h, List.tail_cons]⟩

/-- `t` is `s` after the first `k` bytes of a frame have been stored, `ps` being offered next (R63, R65). -/
structure Accumulated (s : State) (f : Frame) (k : Nat) (ps : List PortsIn) (t : State) : Prop where
  cfg : t.cfg = s.cfg
  events : t.events = s.events
  count : t.count = k
  stored : ∀ i : Fin 10, i.val < k → t.buf[i] = f[i]
  inputs : t.inputs = ps

variable {f : Frame} {k : Nat} {ps : List PortsIn}

/-- Noise leaves an Idle accumulator as it is (R64). -/
theorem Accumulated.step_noise {b : Byte} (h : Accumulated s f 0 (PortsIn.byte b :: ps) t)
    (hb : b ≠ headMarker) : ∃ t', step t = .next t' ∧ Accumulated s f 0 ps t' := by
  obtain ⟨u, hstep, hcfg, hcount, -, hevents, -, hinputs⟩ := step_of_offered_byte h.inputs
  have hidle := hcount.trans h.count
  rw [u.acceptByte_noise b hidle hb] at hstep hinputs
  exact ⟨_, hstep, hcfg.trans h.cfg, hevents.trans h.events, hidle, by simp, hinputs⟩

/-- The byte that a frame needs next is stored: the header by R63, the others by R65. -/
theorem State.acceptByte_stores {b : Byte} (hw : s.cfg.LegalCount) (h8 : s.count ≤ 8)
    (hb : s.count = 0 → b = headMarker) :
    (s.acceptByte b).count = s.count + 1 ∧ (s.acceptByte b).buf = s.buf.set s.count b (by omega) ∧
      (s.acceptByte b).events = s.events := by
  by_cases h0 : s.count = 0
  · obtain rfl := hb h0
    rw [s.acceptByte_header h0]
    simp [h0, Config.LegalCount.mod_eq hw]
  · rw [s.acceptByte_append b (by omega) h8]
    simp [Config.LegalCount.mod_eq hw (v := s.count + 1) (by omega)]

/-- One more byte of the frame is stored, before its tenth. -/
theorem Accumulated.step_byte (hw : s.cfg.LegalCount) (hhead : f[0] = headMarker) (hk : k < 9)
    (h : Accumulated s f k (PortsIn.byte f[k] :: ps) t) :
    ∃ t', step t = .next t' ∧ Accumulated s f (k + 1) ps t' := by
  obtain ⟨u, hstep, hcfg, hcount, hbuf, hevents, hcfg', hinputs⟩ := step_of_offered_byte h.inputs
  have hu : u.count = k := hcount.trans h.count
  obtain ⟨hcount', hbuf', hevents'⟩ := u.acceptByte_stores (b := f[k])
    (by rwa [hcfg, h.cfg]) (by omega) (fun h0 => by simp [← hhead, ← hu, h0])
  refine ⟨_, hstep, hcfg'.trans h.cfg, hevents'.trans (hevents.trans h.events), by rw [hcount', hu],
    fun i hi => ?_, hinputs⟩
  by_cases hik : i.val = k
  · simp [hbuf', hu, hik]
  · have hold := h.stored i (by omega)
    simpa [hbuf', hu, hbuf, Vector.getElem_set, Ne.symm hik] using hold

/-- The tenth byte completes the frame (R66). -/
theorem Accumulated.step_tenth (h : Accumulated s f 9 (PortsIn.byte f[9] :: ps) t) :
    ∃ t', step t = .next t' ∧ t'.count = 0 ∧ t'.buf = f ∧
      t'.events = s.events ++ [frameEvent s.cfg f] ∧ t'.inputs = ps := by
  obtain ⟨u, hstep, hcfg, hcount, hbuf, hevents, -, hinputs⟩ := step_of_offered_byte h.inputs
  have hframe : u.buf.set 9 f[9] = f := by
    refine Vector.ext fun i hi => ?_
    by_cases hi9 : i = 9
    · simp [hi9]
    · have hold := h.stored ⟨i, hi⟩ (by simp; omega)
      simpa [Vector.getElem_set, Ne.symm hi9, hbuf] using hold
  rw [u.acceptByte_tenth _ (hcount.trans h.count), State.frameWith, hframe] at hstep hinputs
  refine ⟨_, hstep, State.completeFrame_count .., ?_, ?_, hinputs⟩
  · rw [State.completeFrame_buf, hframe]
  · rw [State.completeFrame_events, hevents, h.events, hcfg, h.cfg, frameEvent, frameResult]

/-! The bytes of R69 as they are offered: noise, then a frame. -/

section
variable {noise : List Byte} {rest ins : List PortsIn}
  (hins : ins = (noise ++ f.toList).map PortsIn.byte ++ rest)
include hins

theorem drop_offered_noise (hk : k < noise.length) :
    ins.drop k = PortsIn.byte noise[k] :: ins.drop (k + 1) := by
  rw [List.drop_eq_getElem_cons (by simp [hins]; omega)]
  simp [hins, hk]

theorem drop_offered_frame (hk : k < 10) :
    ins.drop (noise.length + k) = PortsIn.byte f[k] :: ins.drop (noise.length + k + 1) := by
  rw [List.drop_eq_getElem_cons (by simp [hins]; omega)]
  simp [hins, hk]

theorem drop_offered_all : ins.drop (noise.length + 10) = rest := by
  rw [hins]
  exact List.drop_left' (by simp)

end

/-- After `k` of the offered bytes, noise and then a frame, the frame's bytes among them are stored: none while
`k` is at most the length of the noise. -/
theorem run_accumulates {noise : List Byte} {rest : List PortsIn} (hw : s.cfg.LegalCount)
    (h0 : s.count = 0) (hnoise : ∀ b ∈ noise, b ≠ headMarker) (hhead : f[0] = headMarker)
    (hinputs : s.inputs = (noise ++ f.toList).map PortsIn.byte ++ rest) (hk : k ≤ noise.length + 9) :
    ∃ t, core.run k s = .next t ∧ Accumulated s f (k - noise.length) (s.inputs.drop k) t := by
  induction k with
  | zero => exact ⟨s, rfl, rfl, rfl, by simpa using h0, by simp, rfl⟩
  | succ k ih =>
    obtain ⟨t, hrun, hacc⟩ := ih (by omega)
    rw [run_succ_of_run (M := core) hrun]
    by_cases hphase : k < noise.length
    · rw [show k + 1 - noise.length = 0 by omega]
      rw [show k - noise.length = 0 by omega, drop_offered_noise hinputs hphase] at hacc
      exact hacc.step_noise (hnoise _ (List.getElem_mem hphase))
    · obtain ⟨j, rfl⟩ := Nat.exists_eq_add_of_le (Nat.le_of_not_lt hphase)
      rw [show noise.length + j + 1 - noise.length = j + 1 by omega]
      rw [Nat.add_sub_cancel_left, drop_offered_frame hinputs (by omega)] at hacc
      exact hacc.step_byte hw hhead (by omega)

/-- Settles O22: before the last byte nothing but bytes of the frame has been stored, and the last completes
it. -/
theorem headerAlignedFrameIsDecodedAfterNoise : Obligations.HeaderAlignedFrameIsDecodedAfterNoise := by
  unfold Obligations.HeaderAlignedFrameIsDecodedAfterNoise
  intro s noise f rest hw h0 hnoise hhead hinputs
  refine ⟨fun k hk => ?_, ?_⟩
  · obtain ⟨t, hrun, hacc⟩ := run_accumulates hw h0 hnoise hhead hinputs (k := k) (by omega)
    exact ⟨t, hrun, hacc.events⟩
  · obtain ⟨t, hrun, hacc⟩ := run_accumulates hw h0 hnoise hhead hinputs le_rfl
    rw [Nat.add_sub_cancel_left, drop_offered_frame hinputs (by omega),
      drop_offered_all hinputs] at hacc
    obtain ⟨t', hstep, hdone⟩ := hacc.step_tenth
    exact ⟨t', (run_succ_of_run (M := core) hrun).trans hstep, hdone⟩

/-! The way back to a legal state. -/

/-- Outside Idle, the bytes that are missing to ten bring the accumulator back to Idle, whatever they are
(R65, R66). -/
theorem run_returnsToIdle {bytes : List Byte} {rest : List PortsIn} (hw : s.cfg.LegalCount)
    (h1 : 1 ≤ s.count) (h9 : s.count ≤ 9) (hlen : s.count + bytes.length = 10)
    (hinputs : s.inputs = bytes.map PortsIn.byte ++ rest) :
    ∃ t, core.run bytes.length s = .next t ∧ t.count = 0 := by
  induction bytes generalizing s with
  | nil => simp at hlen; omega
  | cons b bytes ih =>
    obtain ⟨u, hstep, hcfg, hcount, -, -, hcfg', hinputs'⟩ := step_of_offered_byte hinputs
    rw [List.length_cons, run_succ_of_step (M := core) hstep]
    rw [List.length_cons] at hlen
    by_cases hlast : s.count = 9
    · obtain rfl := List.length_eq_zero_iff.mp (by omega : bytes.length = 0)
      rw [u.acceptByte_tenth b (hcount.trans hlast)]
      exact ⟨_, rfl, State.completeFrame_count ..⟩
    · obtain ⟨hcount', -⟩ := u.acceptByte_stores (b := b) (by rwa [hcfg]) (by omega) (by omega)
      exact ih (by rwa [hcfg']) (by omega) (by omega) (by omega) hinputs'

/-- An illegal count is left by the next byte, which is a header or noise (R67). -/
theorem State.acceptByte_legal_of_overflow (hw : s.cfg.LegalCount) (h10 : 10 ≤ s.count) (b : Byte) :
    (s.acceptByte b).Legal := by
  rw [s.acceptByte_overflow b h10]
  by_cases hb : b = headMarker
  · obtain ⟨hcount, hbuf⟩ := s.overflowByte_header hw
    subst hb
    exact ⟨by omega, fun _ => by rw [hbuf, Vector.getElem_set_self]⟩
  · obtain ⟨hcount, -⟩ := s.overflowByte_noise hb
    exact ⟨by omega, by omega⟩

/-- Settles O23: a state is legal while Idle, an illegal count takes one byte, and any other state takes the
bytes that are missing to ten. -/
theorem anyStateIsLegalWithinTenBytes : Obligations.AnyStateIsLegalWithinTenBytes := by
  unfold Obligations.AnyStateIsLegalWithinTenBytes
  intro s bytes rest hw hlen hinputs
  have hidle : ∀ t : State, t.count = 0 → t.Legal := fun t h => ⟨by omega, by omega⟩
  by_cases h0 : s.count = 0
  · exact ⟨0, by omega, s, rfl, hidle s h0⟩
  by_cases h9 : s.count ≤ 9
  · have htake : (bytes.take (10 - s.count)).length = 10 - s.count := by simp; omega
    obtain ⟨t, hrun, ht⟩ := run_returnsToIdle (s := s) (bytes := bytes.take (10 - s.count))
      (rest := (bytes.drop (10 - s.count)).map PortsIn.byte ++ rest) hw (by omega) h9 (by omega)
      (by rw [hinputs, ← List.append_assoc, ← List.map_append, List.take_append_drop])
    exact ⟨_, by omega, t, hrun, hidle t ht⟩
  · obtain ⟨b, bytes, rfl⟩ := List.exists_cons_of_length_eq_add_one hlen
    obtain ⟨u, hstep, hcfg, hcount, -⟩ := step_of_offered_byte hinputs
    exact ⟨1, by omega, _, run_succ_of_step (M := core) hstep 0,
      u.acceptByte_legal_of_overflow (by rwa [hcfg]) (by omega) b⟩

end Sys2Proof.Machine
end

section
/-! SUPPORT. The two sides of a step beside each other (R7, R16, R26, R94): the operation each runs, what each
leaves alone, and what each depends on. -/

namespace Sys2Proof.Machine

variable (s : State)

/-! The transmit side as a function of the parameters and the command ports. -/

/-- `s` after a step's transmit side has driven `tx`: a frame on the ports joins the transmit stream (R28). -/
def State.driveTx (s : State) (tx : TxPorts) : State :=
  { s with tx := tx, sent := if tx.valid = true then s.sent ++ [tx.frame] else s.sent }

/-- What a command drives: its encoding, or the refusal of its period (R52, R53). -/
def txPortsOfCommand (c : Config) (i : Instr) : TxPorts :=
  if WellFormed i then TxPorts.ofFrame (encode c i) else TxPorts.ofReject c .periodRange

/-- What the ports of one step drive on the transmit side (R52, R53). -/
def txPortsOf (c : Config) (p : PortsIn) : TxPorts :=
  if !p.cmdValid then TxPorts.idle c
  else
    match commandOfPorts p with
    | some i => txPortsOfCommand c i
    | none => TxPorts.ofReject c .unknownKind

theorem State.driveTx_keepsReceive (tx : TxPorts) : s.KeepsReceive (s.driveTx tx) :=
  ⟨rfl, rfl, rfl, fun _ => rfl, rfl, rfl⟩

theorem exec_command_eq {i : Instr} (hf : i.format = .cmd) :
    exec i s = .next (s.driveTx (txPortsOfCommand s.cfg i)) := by
  by_cases hw : WellFormed i = true
  · obtain ⟨payload, henc, hexec⟩ := exec_command s hf hw
    rw [hexec, txPortsOfCommand, if_pos hw, henc]
    rfl
  · cases i with
    | setWorkingPeriod a period =>
      rw [exec_setWorkingPeriod_of_lt s a (by simpa [WellFormed] using hw), txPortsOfCommand, if_neg hw]
      rfl
    | unknownCommand | noise => cases hf
    | _ => exact absurd rfl hw

/-- The ports offer no operation of the receive side (R46). -/
theorem format_of_commandOfPorts {p : PortsIn} {i : Instr} (h : commandOfPorts p = some i) :
    i.format = .cmd := by
  unfold commandOfPorts at h
  split_ifs at h <;> cases h <;> rfl

theorem transmitSide_eq (p : PortsIn) : transmitSide p s = .next (s.driveTx (txPortsOf s.cfg p)) := by
  cases hv : p.cmdValid with
  | false => simp only [transmitSide, txPortsOf, hv]; rfl
  | true =>
    cases hi : commandOfPorts p with
    | none => simp only [transmitSide, txPortsOf, hv, hi]; rfl
    | some i =>
      simp only [transmitSide, txPortsOf, hv, hi, exec_command_eq s (format_of_commandOfPorts hi)]
      rfl

/-- The transmit ports and the transmit stream after a step. -/
theorem step_transmit {t : State} (h : step s = .next t) :
    t.tx = txPortsOf s.cfg s.nextInput ∧
      t.sent = if t.tx.valid = true then s.sent ++ [t.tx.frame] else s.sent := by
  obtain ⟨t', hstep, htx, hsent⟩ := step_of_transmitSide (transmitSide_eq s.advance s.nextInput)
  obtain rfl := Host.Outcome.next.inj (hstep.symm.trans h)
  rw [hsent, htx]
  exact ⟨rfl, rfl⟩

/-- Settles O26: the stream is what `State.driveTx` makes of it. -/
theorem transmitStreamGrowsByTheFramesShown : Obligations.TransmitStreamGrowsByTheFramesShown := by
  unfold Obligations.TransmitStreamGrowsByTheFramesShown
  intro s t h
  exact (step_transmit s h).2

/-- Settles O51: with no command offered the ports driven are the idle ones. -/
theorem noCommandProducesNothing : Obligations.NoCommandProducesNothing := by
  unfold Obligations.NoCommandProducesNothing
  rintro s p rfl hv
  obtain ⟨t, h⟩ := everyStepEndsInANextState s
  obtain ⟨htx, hsent⟩ := step_transmit s h
  have hidle : t.tx = TxPorts.idle s.cfg := by simp [htx, txPortsOf, hv]
  rw [hidle] at hsent
  exact ⟨t, h, by rw [hidle]; rfl, by rw [hidle]; rfl, by rw [hidle]; rfl, hsent⟩

/-- The command on the ports is fixed by the kind and the ports its variant uses (R46, R52). -/
theorem commandOfPorts_congr {p q : PortsIn} (hkind : q.cmdKind = p.cmdKind)
    (hmode : p.cmdKind = 0 ∨ p.cmdKind = 3 → q.cmdQuery = p.cmdQuery ∧ q.cmdMode = p.cmdMode)
    (hid : p.cmdKind = 2 → q.cmdId = p.cmdId)
    (hperiod : p.cmdKind = 4 → q.cmdQuery = p.cmdQuery ∧ q.cmdPeriod = p.cmdPeriod) :
    commandOfPorts q = commandOfPorts p := by
  unfold commandOfPorts
  rw [hkind]
  split_ifs with h0 h1 h2 h3 h4 h5
  · obtain ⟨hq, hm⟩ := hmode (.inl h0)
    rw [hq, hm]
  · rfl
  · rw [hid h2]
  · obtain ⟨hq, hm⟩ := hmode (.inr h3)
    rw [hq, hm]
  · obtain ⟨hq, hp⟩ := hperiod h4
    rw [hq, hp]
  · rfl
  · rfl

/-- Settles O52: the transmit side reads `cmd_valid` and the command on the ports, and no other input. -/
theorem unusedCommandPortsAreIgnored : Obligations.UnusedCommandPortsAreIgnored := by
  unfold Obligations.UnusedCommandPortsAreIgnored
  intro p q s hv hkind hmode hid hperiod
  rw [transmitSide, transmitSide, hv, commandOfPorts_congr hkind hmode hid hperiod]

/-! The operations. -/

/-- Every operation of the receive side accepts a byte or completes a frame, and leaves the transmit side alone
(R26). -/
theorem exec_receive_keepsTransmit {i : Instr} (hf : i.format ≠ .cmd) :
    ∃ t, exec i s = .next t ∧ s.KeepsTransmit t := by
  cases i with
  | head => exact ⟨_, rfl, s.acceptByte_keepsTransmit _⟩
  | noise b => exact ⟨_, rfl, s.acceptByte_keepsTransmit _⟩
  | queryResponse | setReportingModeResponse | setDeviceIdResponse | setSleepWorkResponse
  | setWorkingPeriodResponse | getFirmwareVersionResponse | unknownCommand =>
    exact ⟨_, rfl, s.completeFrame_keepsTransmit _ _⟩
  | _ => exact absurd rfl hf

/-- Settles O8: a command touches the transmit side only, every other operation the receive side only. -/
theorem everyOperationCompletesAndKeepsTheOtherSide :
    Obligations.EveryOperationCompletesAndKeepsTheOtherSide := by
  unfold Obligations.EveryOperationCompletesAndKeepsTheOtherSide
  intro i s
  by_cases hf : i.format = .cmd
  · exact ⟨_, exec_command_eq s hf, fun _ => s.driveTx_keepsReceive _, fun h => absurd hf h⟩
  · obtain ⟨t, hexec, hkeep⟩ := exec_receive_keepsTransmit s hf
    exact ⟨t, hexec, fun h => absurd h hf, fun _ => hkeep⟩

/-- Settles O55: the operation decoded from a frame completes that frame with its classification. -/
theorem frameOperationsCompleteTheirFrameInEveryPhase :
    Obligations.FrameOperationsCompleteTheirFrameInEveryPhase := by
  unfold Obligations.FrameOperationsCompleteTheirFrameInEveryPhase
  exact fun s f => ⟨_, exec_decodeFrame s f, s.completeFrame_afterFrame (classify f)⟩

/-- Settles O16: both are the accumulator's step on the byte. -/
theorem byteRowsOutsideIdleAreTheAccumulator : Obligations.ByteRowsOutsideIdleAreTheAccumulator := by
  unfold Obligations.ByteRowsOutsideIdleAreTheAccumulator
  exact fun s b => ⟨_, exec_decodeByte s b, receiveSide_eq (PortsIn.byte b) s⟩

/-! The operation that a step selects. -/

/-- With a byte offered without reset, the receive side runs the operation the byte selects. -/
theorem receiveSide_of_fetch {p : PortsIn} {i : Instr} (hrst : p.rst = false) (hrx : p.rxValid = true)
    (hi : s.fetch p.rxData = some i) : receiveSide p s = exec i s := by
  simp [receiveSide, hrst, hrx, hi]

/-- Settles O6: `State.fetch` at count 0 and at count 9, and the command on the ports. -/
theorem stepRunsTheSelectedOperation : Obligations.StepRunsTheSelectedOperation := by
  unfold Obligations.StepRunsTheSelectedOperation
  rintro s p rfl
  refine ⟨rfl, fun u h0 hrst hrx => ?_, fun u h9 hrst hrx => ?_, fun u i hv hi => ?_⟩
  · exact receiveSide_of_fetch u hrst hrx (by simp [State.fetch, h0])
  · exact receiveSide_of_fetch u hrst hrx (by simp [State.fetch, h9, State.frameWith])
  · simp [transmitSide, hv, hi]

/-! Neither side reads the other. -/

/-- The receive side's result on a byte is fixed by the parameters, the count, the registers and the byte. -/
theorem State.acceptByte_congr {s s' : State} (hcfg : s'.cfg = s.cfg) (hcount : s'.count = s.count)
    (hbuf : s'.buf = s.buf) (b : Byte) :
    (s'.acceptByte b).count = (s.acceptByte b).count ∧ (s'.acceptByte b).buf = (s.acceptByte b).buf ∧
      (s'.acceptByte b).evt = (s.acceptByte b).evt := by
  obtain ⟨h0, rfl, h⟩ | ⟨h0, hb, h⟩ | ⟨h0, h8, h⟩ | ⟨h9, h⟩ | ⟨h10, h⟩ := s.acceptByte_cases b
  · rw [h, s'.acceptByte_header (hcount.trans h0)]
    simp [hcfg, hbuf]
  · rw [h, s'.acceptByte_noise b (hcount.trans h0) hb]
    simp [hcount, hbuf]
  · rw [h, s'.acceptByte_append b (by omega) (by omega)]
    simp [hcfg, hcount, hbuf]
  · rw [h, s'.acceptByte_tenth b (hcount.trans h9)]
    simp [hcfg, hbuf, State.frameWith]
  · rw [h, s'.acceptByte_overflow b (by omega)]
    unfold State.overflowByte
    split_ifs
    · simp [hcfg, hbuf]
    · simp [hbuf]

/-- Settles O27: the receive side's cases compared arm by arm, and the transmit ports as a function of the
parameters and the command ports. -/
theorem sidesDoNotInteract : Obligations.SidesDoNotInteract := by
  unfold Obligations.SidesDoNotInteract
  intro s s' t t' h h' hcfg
  refine ⟨fun hcount hbuf hrst hrx hdata => ?_, fun hv hkind hquery hmode hperiod hid => ?_⟩
  · obtain ⟨u, hucfg, -, hucount, hubuf, -, hcases⟩ := step_receive_cases s h
    obtain ⟨u', hucfg', -, hucount', hubuf', -, hcases'⟩ := step_receive_cases s' h'
    have hc : u'.count = u.count := hucount'.trans (hcount.trans hucount.symm)
    have hb : u'.buf = u.buf := hubuf'.trans (hbuf.trans hubuf.symm)
    rw [hrst, hrx, hdata] at hcases'
    obtain ⟨hr, rfl⟩ | ⟨hr, hx, rfl⟩ | ⟨hr, hx, rfl⟩ := hcases
    · obtain rfl : t' = u'.resetReceive := by simpa [hr] using hcases'
      exact ⟨rfl, rfl, rfl⟩
    · obtain rfl : t' = u'.noEvent := by simpa [hr, hx] using hcases'
      exact ⟨hc, hb, rfl⟩
    · obtain rfl : t' = u'.acceptByte s.nextInput.rxData := by simpa [hr, hx] using hcases'
      exact State.acceptByte_congr (hucfg'.trans (hcfg.trans hucfg.symm)) hc hb _
  · rw [(step_transmit s h).1, (step_transmit s' h').1, hcfg, txPortsOf, txPortsOf, hv,
      commandOfPorts_congr hkind (fun _ => ⟨hquery, hmode⟩) (fun _ => hid)
        (fun _ => ⟨hquery, hperiod⟩)]

theorem State.completeFrame_driveTx (tx : TxPorts) (f : Frame) (classified : Except Cause Response) :
    (s.driveTx tx).completeFrame f classified = (s.completeFrame f classified).driveTx tx := by
  unfold State.completeFrame
  rw [show (s.driveTx tx).cfg = s.cfg from rfl]
  cases afterChecks s.cfg f classified with
  | ok r => rfl
  | error cause => rfl

theorem State.acceptByte_driveTx (tx : TxPorts) (b : Byte) :
    (s.driveTx tx).acceptByte b = (s.acceptByte b).driveTx tx := by
  obtain ⟨h0, rfl, h⟩ | ⟨h0, hb, h⟩ | ⟨h0, h8, h⟩ | ⟨h9, h⟩ | ⟨h10, h⟩ := s.acceptByte_cases b
  · rw [h, (s.driveTx tx).acceptByte_header h0]
    rfl
  · rw [h, (s.driveTx tx).acceptByte_noise b h0 hb]
    rfl
  · rw [h, (s.driveTx tx).acceptByte_append b (Nat.pos_of_ne_zero h0) h8]
    rfl
  · rw [h, (s.driveTx tx).acceptByte_tenth b h9]
    exact s.completeFrame_driveTx tx _ _
  · rw [h, (s.driveTx tx).acceptByte_overflow b h10]
    unfold State.overflowByte
    split_ifs <;> rfl

/-- Settles O28: each arm of the receive side commutes with the driving of the transmit ports, whose values
depend on the parameters and the command ports only. -/
theorem orderOfTheSidesDoesNotMatter : Obligations.OrderOfTheSidesDoesNotMatter := by
  unfold Obligations.OrderOfTheSidesDoesNotMatter
  intro p s
  rw [transmitSide_eq, andThen_next, receiveSide_eq, receiveSide_eq, andThen_next, transmitSide_eq]
  split_ifs
  · rfl
  · rfl
  · rw [s.acceptByte_driveTx, (s.acceptByte_keepsTransmit p.rxData).1]

/-- Settles O25: the step's event with the ports it drives, whose `evt_valid` is 1. -/
theorem eventPortsShowTheStepsEvent : Obligations.EventPortsShowTheStepsEvent := by
  unfold Obligations.EventPortsShowTheStepsEvent
  intro s t h
  obtain hquiet | ⟨e, hevt, hevents, hresponse⟩ := step_event_cases s h
  · exact .inl hquiet
  · exact .inr ⟨e, hevents, hevt, by rw [hevt, portsOfEvent_valid], hresponse⟩

end Sys2Proof.Machine
end

section
/-! SUPPORT. The response format (R29, R38): every ten-byte frame is the encoding of the operation it decodes
to, and every operation of the format is what its frame decodes to. -/

namespace Sys2Proof.Machine

theorem decode_frame (c : Config) (f : Frame) : decode c .rsp10 f.toList = .ok (decodeFrame f) := by
  obtain ⟨⟨bytes⟩, hlen⟩ := f
  match bytes, hlen with
  | [_, _, _, _, _, _, _, _, _, _], rfl => rfl

theorem deviceOf_responseFrame (env : Envelope) (id d0 d1 d2 d3 : Byte) (device : Half) :
    deviceOf (responseFrame env id d0 d1 d2 d3 device) = device :=
  be16_hiByte_loByte device

/-- The pairs of R38's table are those that select a row other than the default one. -/
theorem knownPair_iff (id sub : Byte) : knownPair id sub = true ↔ id = rspData ∨ id = rspReply ∧
    sub ∈ [rspReportingMode, rspDeviceId, rspSleepWork, rspWorkingPeriod, rspFirmware] := by
  simp [knownPair]

/-- Decoding a frame loses none of its bytes, since its operation carries every one of them. -/
theorem decodeFrame_encodes (c : Config) (f : Frame) :
    (decodeFrame f).format = .rsp10 ∧ WellFormed (decodeFrame f) = true ∧
      encode c (decodeFrame f) = f.toList := by
  have hframe := responseFrame_of_frame f
  by_cases hdata : f[1] = rspData
  · rw [(dispatch_query hdata).1]
    refine ⟨rfl, rfl, ?_⟩
    simp only [encode, hiByte_le16, loByte_le16]
    rw [← hdata, hframe]
  by_cases hpair : f[1] = rspReply ∧
      f[2] ∈ [rspReportingMode, rspDeviceId, rspSleepWork, rspWorkingPeriod, rspFirmware]
  · obtain ⟨h1, h2⟩ := hpair
    simp only [List.mem_cons, List.not_mem_nil, or_false] at h2
    obtain h2 | h2 | h2 | h2 | h2 := h2
    · rw [(dispatch_reportingMode h1 h2).1]
      exact ⟨rfl, rfl, by rw [encode, ← h1, ← h2, hframe]⟩
    · rw [(dispatch_deviceId h1 h2).1]
      exact ⟨rfl, rfl, by rw [encode, ← h1, ← h2, hframe]⟩
    · rw [(dispatch_sleepWork h1 h2).1]
      exact ⟨rfl, rfl, by rw [encode, ← h1, ← h2, hframe]⟩
    · rw [(dispatch_workingPeriod h1 h2).1]
      exact ⟨rfl, rfl, by rw [encode, ← h1, ← h2, hframe]⟩
    · rw [(dispatch_firmware h1 h2).1]
      exact ⟨rfl, rfl, by rw [encode, ← h1, ← h2, hframe]⟩
  · rw [(dispatch_unknown hdata hpair).1]
    refine ⟨rfl, ?_, by rw [encode, hframe]⟩
    have hunknown : ¬knownPair f[1] f[2] = true := by
      rw [knownPair_iff]
      exact not_or.mpr ⟨hdata, hpair⟩
    simpa [WellFormed] using hunknown

/-- Settles O2: the frame decoder is total, and its operation carries the whole frame. -/
theorem encodeOfDecodedFrameIsTheFrame : Obligations.EncodeOfDecodedFrameIsTheFrame := by
  unfold Obligations.EncodeOfDecodedFrameIsTheFrame
  exact fun c f => ⟨_, decode_frame c f, decodeFrame_encodes c f⟩

/-- Every operation of the response format is the one its frame decodes to. -/
theorem decode_encode_response (c : Config) {i : Instr} (hf : i.format = .rsp10)
    (hw : WellFormed i = true) : decode c .rsp10 (encode c i) = .ok i := by
  cases i with
  | queryResponse pm25 pm10 device env =>
    rw [encode, decode_frame, (dispatch_query rfl).1, deviceOf_responseFrame]
    exact congrArg₂ (fun a b => Except.ok (Instr.queryResponse a b device env))
      (le16_loByte_hiByte pm25) (le16_loByte_hiByte pm10)
  | setReportingModeResponse =>
    rw [encode, decode_frame, (dispatch_reportingMode rfl rfl).1, deviceOf_responseFrame]
    rfl
  | setDeviceIdResponse =>
    rw [encode, decode_frame, (dispatch_deviceId rfl rfl).1, deviceOf_responseFrame]
    rfl
  | setSleepWorkResponse =>
    rw [encode, decode_frame, (dispatch_sleepWork rfl rfl).1, deviceOf_responseFrame]
    rfl
  | setWorkingPeriodResponse =>
    rw [encode, decode_frame, (dispatch_workingPeriod rfl rfl).1, deviceOf_responseFrame]
    rfl
  | getFirmwareVersionResponse =>
    rw [encode, decode_frame, (dispatch_firmware rfl rfl).1, deviceOf_responseFrame]
    rfl
  | unknownCommand id sub d1 d2 d3 device env =>
    have hpair : ¬knownPair id sub = true := by simpa [WellFormed] using hw
    rw [knownPair_iff, not_or] at hpair
    rw [encode, decode_frame, (dispatch_unknown (f := responseFrame env id sub d1 d2 d3 device)
      hpair.1 hpair.2).1, deviceOf_responseFrame]
    rfl
  | _ => cases hf

end Sys2Proof.Machine
end

section
/-! SUPPORT. Data sections (R41, R42): the bytes that make a sequence of `L` bytes one of the three layouts, and
the operands read from them. -/

namespace Sys2Proof.Machine

variable {c : Config} {p q : List Byte}

/-- The all-ones marker closes the data section (R41). -/
abbrev HasTarget (c : Config) (p : List Byte) : Prop :=
  byteAt p (c.cmdPayloadLen - 2) = cmdTarget ∧ byteAt p (c.cmdPayloadLen - 1) = cmdTarget

theorem IsPayload.byteAt_eq {named : Nat → Byte} (h : IsPayload c named p) {i : Nat}
    (hi : i < c.cmdPayloadLen) :
    byteAt p i = if i < c.cmdPayloadLen - 2 then named i else cmdTarget := by
  rw [byteAt, List.getD_eq_getElem?_getD, h.byte i hi, Option.getD_some]

theorem getElem?_eq_byteAt {i : Nat} (hi : i < p.length) : p[i]? = some (byteAt p i) := by
  simp [byteAt, hi]

theorem reservedZero_iff {used : List Nat} : reservedZero c p used = true ↔
    ∀ i, i < c.cmdPayloadLen - 2 → i ∉ used → byteAt p i = 0 := by
  simp [reservedZero, or_iff_not_imp_left]

/-- A sequence of `L` bytes is the data section with the named bytes `named` exactly if it has the marker and
holds them. -/
theorem IsPayload.eq_iff {named : Nat → Byte} (h : IsPayload c named q) (hc : c.Legal)
    (hp : p.length = c.cmdPayloadLen) :
    p = q ↔ HasTarget c p ∧ ∀ i, i < c.cmdPayloadLen - 2 → byteAt p i = named i := by
  have hL := hc.1
  constructor
  · rintro rfl
    refine ⟨⟨?_, ?_⟩, fun i hi => ?_⟩
    · rw [h.byteAt_eq (by omega), if_neg (by omega)]
    · rw [h.byteAt_eq (by omega), if_neg (by omega)]
    · rw [h.byteAt_eq (by omega), if_pos hi]
  · rintro ⟨⟨h1, h2⟩, hnamed⟩
    refine List.ext_getElem? fun i => ?_
    by_cases hi : i < c.cmdPayloadLen
    · rw [h.byte i hi, getElem?_eq_byteAt (by omega)]
      split_ifs with hlow
      · rw [hnamed i hlow]
      · obtain rfl | rfl : i = c.cmdPayloadLen - 2 ∨ i = c.cmdPayloadLen - 1 := by omega
        · rw [h1]
        · rw [h2]
    · rw [List.getElem?_eq_none (by omega), List.getElem?_eq_none (by rw [h.length]; omega)]

/-- It is enough to compare the named bytes, the others being reserved. -/
theorem IsPayload.eq_iff_used {named : Nat → Byte} (h : IsPayload c named q) (hc : c.Legal)
    (hp : p.length = c.cmdPayloadLen) {used : List Nat} (hlow : ∀ i ∈ used, i < c.cmdPayloadLen - 2)
    (hzero : ∀ i, i ∉ used → named i = 0) :
    p = q ↔ HasTarget c p ∧ (∀ i ∈ used, byteAt p i = named i) ∧ reservedZero c p used = true := by
  rw [h.eq_iff hc hp, reservedZero_iff]
  refine and_congr_right fun _ => ⟨fun hn => ?_, fun ⟨hused, hrest⟩ i hi => ?_⟩
  · exact ⟨fun i hi => hn i (hlow i hi), fun i hi hiu => (hn i hi).trans (hzero i hiu)⟩
  · by_cases hiu : i ∈ used
    · exact hused i hiu
    · exact (hrest i hi hiu).trans (hzero i hiu).symm

theorem be16_eq_iff (a b : Byte) (v : Half) : be16 a b = v ↔ a = hiByte v ∧ b = loByte v := by
  constructor
  · rintro rfl
    rw [hiByte_be16, loByte_be16]
    exact ⟨rfl, rfl⟩
  · rintro ⟨rfl, rfl⟩
    exact be16_hiByte_loByte v

section
variable (hc : c.Legal) (hp : p.length = c.cmdPayloadLen)
include hc hp

theorem eq_barePayload_iff (sub : Byte) : p = barePayload c sub ↔
    HasTarget c p ∧ byteAt p 0 = sub ∧ reservedZero c p [0] = true := by
  have hL := hc.1
  rw [(isPayload_barePayload hc sub).eq_iff_used hc hp (used := [0]) (by simp; omega)
    (by simp +contextual)]
  simp

theorem eq_flagValuePayload_iff (sub flag value : Byte) : p = flagValuePayload c sub flag value ↔
    HasTarget c p ∧ byteAt p 0 = sub ∧ byteAt p 1 = flag ∧ byteAt p 2 = value ∧
      reservedZero c p [0, 1, 2] = true := by
  have hL := hc.1
  rw [(isPayload_flagValuePayload hc sub flag value).eq_iff_used hc hp (used := [0, 1, 2])
    (by simp; omega) (by simp +contextual)]
  simp [and_assoc]

theorem eq_deviceIdPayload_iff (id : Half) : p = deviceIdPayload c id ↔
    HasTarget c p ∧ byteAt p 0 = c.subDeviceId ∧
      be16 (byteAt p (c.cmdPayloadLen - 4)) (byteAt p (c.cmdPayloadLen - 3)) = id ∧
      reservedZero c p [0, c.cmdPayloadLen - 4, c.cmdPayloadLen - 3] = true := by
  have hL := hc.1
  have h1 : c.cmdPayloadLen - 4 ≠ 0 := by omega
  have h2 : c.cmdPayloadLen - 3 ≠ 0 := by omega
  have h3 : c.cmdPayloadLen - 3 ≠ c.cmdPayloadLen - 4 := by omega
  rw [(isPayload_deviceIdPayload hc id).eq_iff_used hc hp
    (used := [0, c.cmdPayloadLen - 4, c.cmdPayloadLen - 3]) (by simp; omega) (by simp +contextual)]
  simp [be16_eq_iff, and_assoc, h1, h2, h3]

end

/-! The operands of a data section (R42): each reader of a byte is the inverse of its writer. -/

/-- The shape that the readers of the flag and of the two modes have: 0x00 and 0x01 are the two values, every
other byte is refused (R42; log 22). -/
def bitOf {α : Type} (reject : Reject) (zero one : α) (b : Byte) : Except Reject α :=
  if b = 0x00 then .ok zero else if b = 0x01 then .ok one else .error reject

theorem bitOf_eq_ok_iff {α : Type} {reject : Reject} {zero one a : α} {byteOf : α → Byte} {b : Byte}
    (hall : a = zero ∨ a = one) (h0 : byteOf zero = 0x00) (h1 : byteOf one = 0x01) :
    bitOf reject zero one b = .ok a ↔ b = byteOf a := by
  constructor
  · intro h
    unfold bitOf at h
    split_ifs at h with hb0 hb1
    · cases h
      exact hb0.trans h0.symm
    · cases h
      exact hb1.trans h1.symm
  · rintro rfl
    obtain rfl | rfl := hall
    · rw [h0]
      rfl
    · rw [h1]
      rfl

theorem accessOf_eq_ok_iff {b : Byte} {a : Access} : accessOf b = .ok a ↔ b = flagByte a :=
  bitOf_eq_ok_iff (reject := .badFlag) (by cases a <;> simp) rfl rfl

theorem flagByte_beq_flagQuery (a : Access) : (flagByte a == flagQuery) = (a == .query) := by
  cases a <;> rfl

theorem reportingModeOf_eq_ok_iff {b : Byte} {m : ReportingMode} :
    reportingModeOf b = .ok m ↔ b = reportingModeByte m :=
  bitOf_eq_ok_iff (reject := .badMode) (by cases m <;> simp) rfl rfl

theorem sleepWorkOf_eq_ok_iff {b : Byte} {m : SleepWork} :
    sleepWorkOf b = .ok m ↔ b = sleepWorkByte m :=
  bitOf_eq_ok_iff (reject := .badMode) (by cases m <;> simp) rfl rfl

theorem periodOf_eq_ok_iff {b v : Byte} : periodOf b = .ok v ↔ b = v ∧ v.toNat ≤ periodMax := by
  constructor
  · intro h
    unfold periodOf at h
    split_ifs at h with hle
    cases h
    exact ⟨rfl, hle⟩
  · rintro ⟨rfl, hle⟩
    exact if_pos hle

theorem decodeFlagValue_eq_ok_iff {α : Type} {value : Byte → Except Reject α} {mk : Access → α → Instr}
    {i : Instr} : decodeFlagValue c p value mk = .ok i ↔ reservedZero c p [0, 1, 2] = true ∧
      ∃ a v, byteAt p 1 = flagByte a ∧ value (byteAt p 2) = .ok v ∧ i = mk a v := by
  simp only [← accessOf_eq_ok_iff]
  unfold decodeFlagValue
  split_ifs with hz
  · cases accessOf (byteAt p 1) <;> cases value (byteAt p 2) <;> simp [hz, eq_comm]
  · simp [hz]

end Sys2Proof.Machine
end

section
/-! SUPPORT. Command frames as units (R39 to R41, R60): what decodes as one is, but for the checksum byte, the
encoding of its command, and that encoding decodes and parses back. -/

namespace Sys2Proof.Machine

variable {c : Config} {p : List Byte}

/-! The frame around the data section. -/

/-- The byte sequence of a command with the checksum byte `k`, whatever it is (R39). -/
def commandUnit (c : Config) (p : List Byte) (k : Byte) : List Byte :=
  [headMarker, c.cmdId] ++ p ++ [k, c.tail]

theorem commandFrame_eq_commandUnit (c : Config) (p : List Byte) :
    commandFrame c p = commandUnit c p (checksum p) := rfl

theorem exists_bytes_of_length {u : List Byte} {n : Nat} (h : u.length = n + 4) :
    ∃ a b p k t, p.length = n ∧ u = [a, b] ++ p ++ [k, t] := by
  match u, h with
  | a :: b :: w, h =>
    have hw : (w.drop n).length = 2 := by simp at h ⊢; omega
    obtain ⟨k, t, hkt⟩ := List.length_eq_two.mp hw
    exact ⟨a, b, w.take n, k, t, by simp at h ⊢; omega, by simp [← hkt]⟩

theorem payloadOf_bytes (a b k t : Byte) (hp : p.length = c.cmdPayloadLen) :
    payloadOf c ([a, b] ++ p ++ [k, t]) = p := by
  simp [payloadOf, ← hp]

/-- The checks on the markers and the id, at the bytes they read. -/
theorem decodeCommand_bytes (a b k t : Byte) (hp : p.length = c.cmdPayloadLen) :
    decodeCommand c ([a, b] ++ p ++ [k, t]) =
      if a ≠ headMarker then .error .badHeader else if b ≠ c.cmdId then .error .badCommandId
      else if t ≠ c.tail then .error .badTailMarker else decodePayload c p := by
  have htail : byteAt ([a, b] ++ p ++ [k, t]) (c.cmdPayloadLen + 3) = t := by simp [byteAt, ← hp]
  rw [decodeCommand, if_neg (by simp [Config.cmdFrameLen, hp]), htail,
    payloadOf_bytes a b k t hp]
  rfl

/-- A unit decodes as a command frame exactly if it has the frame's length, markers and id and its data section
decodes (R39, R40). -/
theorem decodeCommand_eq_ok_iff {u : List Byte} {i : Instr} : decodeCommand c u = .ok i ↔
    ∃ p k, p.length = c.cmdPayloadLen ∧ u = commandUnit c p k ∧ decodePayload c p = .ok i := by
  constructor
  · intro h
    have hlen : u.length = c.cmdPayloadLen + 4 := by
      by_contra hne
      rw [decodeCommand, Config.cmdFrameLen, if_pos hne] at h
      cases h
    obtain ⟨a, b, p, k, t, hp, rfl⟩ := exists_bytes_of_length hlen
    rw [decodeCommand_bytes a b k t hp] at h
    split_ifs at h with ha hb ht
    rw [not_ne_iff] at ha hb ht
    exact ⟨p, k, hp, by rw [ha, hb, ht, commandUnit], h⟩
  · rintro ⟨p, k, hp, rfl, h⟩
    rw [commandUnit, decodeCommand_bytes _ _ _ _ hp]
    simpa using h

/-- The data section of each command (R54 to R59). -/
def commandPayload (c : Config) : Instr → List Byte
  | .setReportingMode a m => reportingModePayload c a m
  | .query => queryPayload c
  | .setDeviceId id => deviceIdPayload c id
  | .setSleepWork a m => sleepWorkPayload c a m
  | .setWorkingPeriod a p => workingPeriodPayload c a p
  | .getFirmwareVersion => firmwarePayload c
  | _ => []

theorem encode_command (c : Config) {i : Instr} (hf : i.format = .cmd) :
    encode c i = commandFrame c (commandPayload c i) := by
  cases i with
  | setReportingMode | query | setDeviceId | setSleepWork | setWorkingPeriod | getFirmwareVersion => rfl
  | _ => cases hf

/-! The sub-type byte selects the command (R41), in the decoder and in the inverse map of R60 alike. -/

/-- A choice by the sub-type byte, in the order of the decoder's rows. -/
def bySubType {α : Type} (c : Config) (sub : Byte)
    (reportingMode query deviceId sleepWork workingPeriod firmware other : α) : α :=
  if sub = c.subReportingMode then reportingMode else if sub = c.subQuery then query
  else if sub = c.subDeviceId then deviceId else if sub = c.subSleepWork then sleepWork
  else if sub = c.subWorkingPeriod then workingPeriod else if sub = c.subFirmware then firmware else other

/-- Legal sub-types are six different bytes, so each chooses its own row. -/
theorem bySubType_of_legal {α : Type} (hc : c.Legal) (r q d s w f o : α) :
    bySubType c c.subReportingMode r q d s w f o = r ∧ bySubType c c.subQuery r q d s w f o = q ∧
      bySubType c c.subDeviceId r q d s w f o = d ∧ bySubType c c.subSleepWork r q d s w f o = s ∧
      bySubType c c.subWorkingPeriod r q d s w f o = w ∧ bySubType c c.subFirmware r q d s w f o = f := by
  obtain ⟨-, -, hn⟩ := hc
  simp only [Config.subTypes, List.nodup_cons, List.mem_cons, List.not_mem_nil, or_false] at hn
  unfold bySubType
  grind

theorem parseCommand_eq (c : Config) (p : List Byte) : parseCommand c p = bySubType c (byteAt p 0)
    (some (.setReportingMode (byteAt p 1 == flagQuery) (byteAt p 2)))
    (some .query)
    (some (.setDeviceId (be16 (byteAt p (c.cmdPayloadLen - 4)) (byteAt p (c.cmdPayloadLen - 3)))))
    (some (.setSleepWork (byteAt p 1 == flagQuery) (byteAt p 2)))
    (some (.setWorkingPeriod (byteAt p 1 == flagQuery) (byteAt p 2)))
    (some .getFirmwareVersion) none := rfl

/-- A result that stands if the reserved bytes are zero. -/
def ifReserved (c : Config) (p : List Byte) (used : List Nat) (i : Instr) : Except Reject Instr :=
  if reservedZero c p used then .ok i else .error .reservedNotZero

theorem ifReserved_eq_ok_iff {used : List Nat} {i j : Instr} :
    ifReserved c p used j = .ok i ↔ reservedZero c p used = true ∧ i = j := by
  unfold ifReserved
  split_ifs with hz <;> simp [hz, eq_comm]

theorem decodePayload_eq (c : Config) (p : List Byte) : decodePayload c p =
    if HasTarget c p then bySubType c (byteAt p 0)
      (decodeFlagValue c p reportingModeOf .setReportingMode)
      (ifReserved c p [0] .query)
      (ifReserved c p [0, c.cmdPayloadLen - 4, c.cmdPayloadLen - 3]
        (.setDeviceId (be16 (byteAt p (c.cmdPayloadLen - 4)) (byteAt p (c.cmdPayloadLen - 3)))))
      (decodeFlagValue c p sleepWorkOf .setSleepWork)
      (decodeFlagValue c p periodOf .setWorkingPeriod)
      (ifReserved c p [0] .getFirmwareVersion) (.error .unknownSubType)
    else .error .badTarget := by
  split_ifs with ht
  · rw [decodePayload, if_neg (by simp [ht.1, ht.2])]
    rfl
  · rw [decodePayload, if_pos (not_and_or.mp ht)]

section
variable (hc : c.Legal) (hp : p.length = c.cmdPayloadLen) {i : Instr}
include hc hp

/-- A data section that decodes is that of the command decoded, and the command is well formed. -/
theorem eq_commandPayload_of_decodePayload (h : decodePayload c p = .ok i) :
    i.format = .cmd ∧ WellFormed i = true ∧ p = commandPayload c i := by
  rw [decodePayload_eq] at h
  split_ifs at h with ht
  unfold bySubType at h
  split_ifs at h with h0 h0 h0 h0 h0 h0
  · obtain ⟨hz, a, m, ha, hm, rfl⟩ := decodeFlagValue_eq_ok_iff.mp h
    exact ⟨rfl, rfl, (eq_flagValuePayload_iff hc hp _ _ _).mpr
      ⟨ht, h0, ha, reportingModeOf_eq_ok_iff.mp hm, hz⟩⟩
  · obtain ⟨hz, rfl⟩ := ifReserved_eq_ok_iff.mp h
    exact ⟨rfl, rfl, (eq_barePayload_iff hc hp _).mpr ⟨ht, h0, hz⟩⟩
  · obtain ⟨hz, rfl⟩ := ifReserved_eq_ok_iff.mp h
    exact ⟨rfl, rfl, (eq_deviceIdPayload_iff hc hp _).mpr ⟨ht, h0, rfl, hz⟩⟩
  · obtain ⟨hz, a, m, ha, hm, rfl⟩ := decodeFlagValue_eq_ok_iff.mp h
    exact ⟨rfl, rfl, (eq_flagValuePayload_iff hc hp _ _ _).mpr
      ⟨ht, h0, ha, sleepWorkOf_eq_ok_iff.mp hm, hz⟩⟩
  · obtain ⟨hz, a, v, ha, hv, rfl⟩ := decodeFlagValue_eq_ok_iff.mp h
    obtain ⟨hv, hmax⟩ := periodOf_eq_ok_iff.mp hv
    exact ⟨rfl, decide_eq_true hmax, (eq_flagValuePayload_iff hc hp _ _ _).mpr ⟨ht, h0, ha, hv, hz⟩⟩
  · obtain ⟨hz, rfl⟩ := ifReserved_eq_ok_iff.mp h
    exact ⟨rfl, rfl, (eq_barePayload_iff hc hp _).mpr ⟨ht, h0, hz⟩⟩

/-- The data section of a well-formed command decodes to it, and parses back to its fields. -/
theorem decodePayload_commandPayload (hf : i.format = .cmd) (hw : WellFormed i = true)
    (hpay : p = commandPayload c i) :
    decodePayload c p = .ok i ∧ parseCommand c p = parsedOf i := by
  rw [decodePayload_eq, parseCommand_eq]
  cases i with
  | setReportingMode a m =>
    obtain ⟨ht, h0, ha, hm, hz⟩ := (eq_flagValuePayload_iff hc hp _ _ _).mp hpay
    simp only [h0, if_pos ht, bySubType_of_legal hc]
    exact ⟨decodeFlagValue_eq_ok_iff.mpr ⟨hz, a, m, ha, reportingModeOf_eq_ok_iff.mpr hm, rfl⟩,
      by rw [ha, hm, flagByte_beq_flagQuery, parsedOf]⟩
  | query =>
    obtain ⟨ht, h0, hz⟩ := (eq_barePayload_iff hc hp _).mp hpay
    simp only [h0, if_pos ht, bySubType_of_legal hc]
    exact ⟨ifReserved_eq_ok_iff.mpr ⟨hz, rfl⟩, rfl⟩
  | setDeviceId id =>
    obtain ⟨ht, h0, rfl, hz⟩ := (eq_deviceIdPayload_iff hc hp _).mp hpay
    simp only [h0, if_pos ht, bySubType_of_legal hc]
    exact ⟨ifReserved_eq_ok_iff.mpr ⟨hz, rfl⟩, rfl⟩
  | setSleepWork a m =>
    obtain ⟨ht, h0, ha, hm, hz⟩ := (eq_flagValuePayload_iff hc hp _ _ _).mp hpay
    simp only [h0, if_pos ht, bySubType_of_legal hc]
    exact ⟨decodeFlagValue_eq_ok_iff.mpr ⟨hz, a, m, ha, sleepWorkOf_eq_ok_iff.mpr hm, rfl⟩,
      by rw [ha, hm, flagByte_beq_flagQuery, parsedOf]⟩
  | setWorkingPeriod a v =>
    obtain ⟨ht, h0, ha, hv, hz⟩ := (eq_flagValuePayload_iff hc hp _ _ _).mp hpay
    simp only [h0, if_pos ht, bySubType_of_legal hc]
    exact ⟨decodeFlagValue_eq_ok_iff.mpr
        ⟨hz, a, v, ha, periodOf_eq_ok_iff.mpr ⟨hv, of_decide_eq_true hw⟩, rfl⟩,
      by rw [ha, hv, flagByte_beq_flagQuery, parsedOf]⟩
  | getFirmwareVersion =>
    obtain ⟨ht, h0, hz⟩ := (eq_barePayload_iff hc hp _).mp hpay
    simp only [h0, if_pos ht, bySubType_of_legal hc]
    exact ⟨ifReserved_eq_ok_iff.mpr ⟨hz, rfl⟩, rfl⟩
  | _ => cases hf

end

/-- Every command's data section has `L` bytes (R39). -/
theorem commandPayload_length (hc : c.Legal) {i : Instr} (hf : i.format = .cmd) :
    (commandPayload c i).length = c.cmdPayloadLen := by
  cases i with
  | setReportingMode | setSleepWork | setWorkingPeriod =>
    exact (isPayload_flagValuePayload hc _ _ _).length
  | query | getFirmwareVersion => exact (isPayload_barePayload hc _).length
  | setDeviceId => exact (isPayload_deviceIdPayload hc _).length
  | _ => cases hf

/-- Settles O1: a byte, a ten-byte frame and a command frame each decode to the operation they encode. -/
theorem decodeOfEncodeIsTheOperation : Obligations.DecodeOfEncodeIsTheOperation := by
  unfold Obligations.DecodeOfEncodeIsTheOperation
  intro c i hc hw
  match hf : i.format with
  | .byte8 =>
    cases i with
    | head => rfl
    | noise b =>
      have hb : b ≠ headMarker := by simpa [WellFormed] using hw
      exact congrArg Except.ok (if_neg hb)
    | _ => cases hf
  | .rsp10 => exact decode_encode_response c hf hw
  | .cmd =>
    have hlen := commandPayload_length hc hf
    rw [encode_command c hf]
    exact decodeCommand_eq_ok_iff.mpr
      ⟨_, _, hlen, commandFrame_eq_commandUnit c _,
        (decodePayload_commandPayload hc hlen hf hw rfl).1⟩

/-- Settles O3: the data section that decodes is the command's, and the frame around it is fixed but for its
checksum byte. -/
theorem decodedCommandFrameIsEncoded : Obligations.DecodedCommandFrameIsEncoded := by
  unfold Obligations.DecodedCommandFrameIsEncoded
  intro c u i hc h
  obtain ⟨p, k, hp, rfl, hdecode⟩ := decodeCommand_eq_ok_iff.mp h
  obtain ⟨hf, hw, hpay⟩ := eq_commandPayload_of_decodePayload hc hp hdecode
  refine ⟨hw, hf, ?_⟩
  rw [encode_command c hf, ← hpay, commandUnit, payloadOf_bytes _ _ _ _ hp]
  simp [commandFrame, ← hp]

theorem exists_parsedOf {i : Instr} (hf : i.format = .cmd) : ∃ cmd, parsedOf i = some cmd := by
  cases i with
  | setReportingMode | query | setDeviceId | setSleepWork | setWorkingPeriod | getFirmwareVersion =>
    exact ⟨_, rfl⟩
  | _ => cases hf

/-- Settles O53: the frame of a data section of `L` bytes, which parses back to the command's fields. -/
theorem commandFrameParsesBack : Obligations.CommandFrameParsesBack := by
  unfold Obligations.CommandFrameParsesBack
  intro c i hc hw hf
  have hlen := commandPayload_length hc hf
  obtain ⟨cmd, hcmd⟩ := exists_parsedOf hf
  rw [encode_command c hf, payloadOf_commandFrame hlen,
    (decodePayload_commandPayload hc hlen hf hw rfl).2, ← hlen]
  exact ⟨cmd, hcmd, hcmd, Laws.commandFrame_length c _, rfl, rfl, commandFrame_getElem?_checksum c _,
    commandFrame_getElem?_tail c _⟩

end Sys2Proof.Machine
end

section
/-! SUPPORT. A frame with one byte changed (R51, R105), a reading's range (R84), and the fixed values that the
spec writes out (R4, R19, 95_test_vectors.md). -/

namespace Sys2Proof.Machine

variable {f : Frame}

/-- A change of one byte from offset 2 to 8 changes the sum, or the byte it is compared with, by less than
256. -/
theorem not_sumMatches_set {i : Fin 10} {v : Byte} (h2 : 2 ≤ i.val) (h8 : i.val ≤ 8)
    (hsum : SumMatches f) (hne : v ≠ f[i]) : ¬SumMatches (f.set i v) := by
  have hv : v.toNat ≠ f[i].toNat := fun h => hne (BitVec.eq_of_toNat_eq h)
  obtain ⟨k, hk⟩ := i
  unfold SumMatches at *
  interval_cases k <;> simp at * <;> omega

/-- Settles O30: the tail byte is not the one changed, and the sum no longer matches. -/
theorem oneChangedByteIsAChecksumMismatch : Obligations.OneChangedByteIsAChecksumMismatch := by
  unfold Obligations.OneChangedByteIsAChecksumMismatch
  intro c f i v h2 h8 hsum htail hne
  have htail' : TailPasses c (f.set i v) := by
    rw [TailPasses, Vector.getElem_set_ne _ _ (by omega)]
    exact htail
  rw [frameResult,
    afterChecks_of_failing c (frameCheck_of_wrongSum c htail' (not_sumMatches_set h2 h8 hsum hne))]

/-- Settles O31: neither check reads offset 1, and 0xC0 at it selects the query row. -/
theorem changedCommandIdIsAcceptedAsAQuery : Obligations.ChangedCommandIdIsAcceptedAsAQuery := by
  unfold Obligations.ChangedCommandIdIsAcceptedAsAQuery
  intro c f hsum htail
  have hsum' : SumMatches (f.set 1 0xC0) := by simpa [SumMatches] using hsum
  have htail' : TailPasses c (f.set 1 0xC0) := by simpa [TailPasses] using htail
  have hid : (f.set 1 0xC0)[1] = rspData := Vector.getElem_set_self _
  rw [frameResult, afterChecks_of_passing c (frameCheck_of_good c hsum' htail'), (dispatch_query hid).2]
  simp [deviceOf]

/-- Settles O43: a raw value is at most 65535. -/
theorem readingIsATenthOfTheRawValue : Obligations.ReadingIsATenthOfTheRawValue := by
  unfold Obligations.ReadingIsATenthOfTheRawValue
  intro raw
  have hraw : (raw.toNat : Rat) ≤ 65535 := by
    have hlt := raw.isLt
    exact_mod_cast (by omega : raw.toNat ≤ 65535)
  refine ⟨microgramsPerCubicMetre_mul_ten raw, ?_, ?_⟩
  · exact div_nonneg (Nat.cast_nonneg _) (by decide)
  · exact div_le_div_of_nonneg_right hraw (by decide)

/-- Settles O18: field by field of `State.reset`. -/
theorem resetStateHoldsTheResetValues : Obligations.ResetStateHoldsTheResetValues := by
  unfold Obligations.ResetStateHoldsTheResetValues
  exact ⟨rfl, fun i => Vector.getElem_replicate i.isLt, by decide, rfl, rfl, rfl, rfl, rfl, rfl⟩

/-- Settles O5: the constants and `Config.default`, evaluated. -/
theorem decidedParameterValues : Obligations.DecidedParameterValues := by
  unfold Obligations.DecidedParameterValues
  decide

/-- Settles O4: the decoder evaluated on the six words. -/
theorem wordsOfTheSpecDecode : Obligations.WordsOfTheSpecDecode := by
  unfold Obligations.WordsOfTheSpecDecode
  exact ⟨by decide, by decide, by decide, by decide, by decide, by decide⟩

end Sys2Proof.Machine
end
